-- ==== Sys2Proof/Word.lean ====
section
/-! DEFINITION. The part's bytes. -/

namespace Sys2Proof

/-- One byte of a frame or an image. -/
abbrev Byte := BitVec 8

/-- A check value (R186) or a digest (R167). -/
abbrev Check := BitVec 16

end Sys2Proof
end

