-- ==== Sys2Proof/Syntax.lean ====
section
/-! DEFINITION. The commands: one constructor of `Instr` for each row of spec/opcode_table.json, with the
row's operands. Arguments of requests stand as the payload gives them (codes as plain numbers), so that a value outside
its range or set can be given and is refused as the rules say; the operands of events use the part's own names. -/

namespace Sys2Proof

/-- The two ports that carry requests (R174). -/
inductive Port where
  | installer | unit
  deriving DecidableEq, Repr

/-- The polarizations H and V. -/
inductive Pol where
  | h | v
  deriving DecidableEq, Repr

/-- The receive branches, numbered 0 to 3 in this order. -/
inductive Branch where
  | mh | mv | dh | dv
  deriving DecidableEq, Repr

/-- The strap inputs read at power-on (R194). -/
structure Straps where
  endSel  : BitVec 1
  iptMode : BitVec 2
  iptAddr : BitVec 1
  deriving DecidableEq, Repr

/-- What the Port Interface sees of an arriving request frame besides its command and arguments (R177, R183). -/
structure ReqFrame where
  /-- The port the frame arrived on. -/
  port     : Port
  /-- The payload length its header gives. -/
  declared : Nat
  /-- The payload bytes it actually carried. -/
  carried  : Nat
  /-- Whether the payload fits the command's layout. -/
  fits     : Bool
  /-- Whether every presence byte holds 0 or 1 and every absent field's bytes are zero (R178). -/
  coded    : Bool
  /-- Whether its first byte followed a gap of at least 20 ms (R177, mode 0). -/
  gap      : Bool
  deriving DecidableEq, Repr

/-- The arguments of BIND (R47), each as the payload gives it. -/
structure BindArgs where
  channel   : Nat
  quantity  : Nat
  source    : Nat
  scale     : Nat
  interval  : Nat
  budget    : Nat
  pageSize  : Nat
  pageCount : Nat
  policy    : Nat
  hold      : Nat
  deriving DecidableEq, Repr

/-- The channel field of a step entry as the payload gives it (R120). -/
structure RawChannel where
  channel  : Nat
  quantity : Nat
  source   : Nat
  scale    : Nat
  interval : Nat
  deriving DecidableEq, Repr

/-- The limit members of a step entry as the payload gives them, in the order of R121's table. -/
structure RawLimits where
  tolerance   : Option Int
  windowBelow : Option Int
  windowAbove : Option Int
  minXpd      : Option Int
  maxDiff     : Option Int
  errored     : Option Int
  severe      : Option Int
  outage      : Option Int
  minFade     : Option Int
  maxBelow    : Option Int
  maxEvents   : Option Int
  deriving DecidableEq, Repr

/-- A step entry as LOAD_STEPS carries it (R120, R122). -/
structure RawStep where
  kind     : Nat
  branches : Option (List Nat)
  pol      : Option Nat
  duration : Option Nat
  farMode  : Option Nat
  locMode  : Option Nat
  limits   : RawLimits
  channel  : Option RawChannel
  onFail   : Nat
  repeats  : Nat
  label    : Nat
  wait     : Option Nat
  deriving DecidableEq, Repr

/-- The commands. Each constructor's docstring names its row and the rule the table gives it. -/
inductive Instr where
  /-- POWER_ON (R191): the straps as read and whether the presence line reports a meter (R182, R194). -/
  | powerOn (straps : Straps) (attached : Bool)
  /-- PROFILE_READ_COMPLETE (R191): the whole image read from configuration memory. -/
  | profileReadComplete (image : List Byte)
  /-- MEMORY_HEADER_REJECT (R191): the header bytes read. -/
  | memoryHeaderReject (header : List Byte)
  /-- MEMORY_NO_ANSWER (R191). -/
  | memoryNoAnswer
  /-- MEMORY_STALL (R191). -/
  | memoryStall
  /-- DETECTOR_SAMPLE (R5): the branch, its detector code and its lock indication. -/
  | detectorSample (b : Branch) (code : Nat) (lock : Bool)
  /-- DOUBLE_BURST_END (R39). -/
  | doubleBurstEnd
  /-- FRESHNESS_EXPIRY (R11). -/
  | freshnessExpiry
  /-- INTERVAL_EXPIRY (R50) of a channel. -/
  | intervalExpiry (ch : Fin 8)
  /-- TEST_BLOCK (R68): 2,048 bits on a polarization, bit 0 the first received. -/
  | testBlock (p : Pol) (bits : BitVec 2048)
  /-- TEST_INTERVAL_EXPIRY (R73). -/
  | testIntervalExpiry
  /-- SETTLE_REPORT (R88) of a change number. -/
  | settleReport (change : Nat)
  /-- SETTLE_TIMEOUT (R89). -/
  | settleTimeout
  /-- COMPOSITION (R98). -/
  | composition
  /-- PEER_FRAME (R100): the bytes the modem delivers. -/
  | peerFrame (bytes : List Byte)
  /-- SILENCE_EXPIRY (R102). -/
  | silenceExpiry
  /-- HOLD_EXPIRY (R114). -/
  | holdExpiry
  /-- PREPARE_LIMIT_EXPIRY (R129). -/
  | prepareLimitExpiry
  /-- SETTLE_LIMIT_EXPIRY (R131). -/
  | settleLimitExpiry
  /-- MEASURE_EXPIRY (R132). -/
  | measureExpiry
  /-- SUSPENSION_LIMIT_EXPIRY (R152). -/
  | suspensionLimitExpiry
  /-- PRESENCE_LOSS (R182). -/
  | presenceLoss
  /-- PRESENCE_ATTACH (R182). -/
  | presenceAttach
  /-- UNIT_PORT_READ (R175): how many bytes the master clocks out after the kind byte, READY or NOT_READY first. -/
  | unitPortRead (clocked : Nat)
  /-- INSTALLER_FRAME_SENT (R176, modes 0 and 2). -/
  | installerFrameSent
  /-- INSTALLER_BUS_READ (R176, mode 1): how many bytes the meter reads, READY or NOT_READY first. -/
  | installerBusRead (count : Nat)
  /-- NOTICE_ACKNOWLEDGE (R176, mode 1). -/
  | noticeAcknowledge
  /-- FRAME_GAP_TIMEOUT (R176, mode 0). -/
  | frameGapTimeout
  /-- FRAME_RESTART_DISCARD (R176, mode 2). -/
  | frameRestartDiscard
  /-- UNKNOWN_REQUEST (R177): a frame whose command code is not in R179's list. -/
  | unknownRequest (f : ReqFrame) (code : Nat)
  /-- PART_RESET (R180). -/
  | partReset
  /-- BRANCH_STATUS (R180). -/
  | branchStatus (f : ReqFrame)
  /-- READ_VALUE (R17, R35): quantity, branch, and the scale that picks SMOOTHED's reading. -/
  | readValue (f : ReqFrame) (quantity branch scale : Nat)
  /-- POINTING_STATUS (R40). -/
  | pointingStatus (f : ReqFrame)
  /-- CHANNEL_STATUS (R63). -/
  | channelStatus (f : ReqFrame) (channel : Nat)
  /-- NEXT_SEGMENT (R61). -/
  | nextSegment (f : ReqFrame)
  /-- TEST_STATUS (R82). -/
  | testStatus (f : ReqFrame)
  /-- TX_STATUS (R95). -/
  | txStatus (f : ReqFrame)
  /-- PEER_STATUS (R116). -/
  | peerStatus (f : ReqFrame)
  /-- READ_STEPS (R123). -/
  | readSteps (f : ReqFrame) (start count : Nat)
  /-- PLAN_STATUS (R143). -/
  | planStatus (f : ReqFrame)
  /-- RECORD_STATUS (R172). -/
  | recordStatus (f : ReqFrame)
  /-- READ_ENTRIES (R172). -/
  | readEntries (f : ReqFrame) (first count : Nat)
  /-- PORT_STATUS (R180). -/
  | portStatus (f : ReqFrame)
  /-- PROFILE_STATUS (R196). -/
  | profileStatus (f : ReqFrame)
  /-- RESET_PEAK (R31): a branch number, or 4 for ALL. -/
  | resetPeak (f : ReqFrame) (target : Nat)
  /-- SET_POINTING (R36). -/
  | setPointing (f : ReqFrame) (branch : Nat)
  /-- BIND (R47). -/
  | bind (f : ReqFrame) (args : BindArgs)
  /-- RUN (R49). -/
  | run (f : ReqFrame) (channel : Nat)
  /-- HALT (R54). -/
  | halt (f : ReqFrame) (channel : Nat)
  /-- RESUME (R55). -/
  | resume (f : ReqFrame) (channel : Nat)
  /-- FLUSH (R56). -/
  | flush (f : ReqFrame) (channel : Nat)
  /-- UNBIND (R57). -/
  | unbind (f : ReqFrame) (channel : Nat)
  /-- OPEN_STREAM (R59); an omitted quantum is absent. -/
  | openStream (f : ReqFrame) (quantum : Option Nat)
  /-- CLOSE_STREAM (R59). -/
  | closeStream (f : ReqFrame)
  /-- JOIN (R60). -/
  | join (f : ReqFrame) (channel : Nat)
  /-- LEAVE (R60). -/
  | leave (f : ReqFrame) (channel : Nat)
  /-- START_TEST (R77). -/
  | startTest (f : ReqFrame) (pols duration : Nat) (severe : Option Nat)
  /-- STOP_TEST (R80). -/
  | stopTest (f : ReqFrame)
  /-- TX_REQUEST (R92). -/
  | txRequest (f : ReqFrame) (mode : Nat)
  /-- TX_RELEASE (R92). -/
  | txRelease (f : ReqFrame)
  /-- TURN_REQUEST (R110). -/
  | turnRequest (f : ReqFrame) (mode : Nat)
  /-- TURN_RELEASE (R111). -/
  | turnRelease (f : ReqFrame)
  /-- LOAD_STEPS (R122). -/
  | loadSteps (f : ReqFrame) (start : Nat) (entries : List RawStep)
  /-- SET_PLAN_LENGTH (R123). -/
  | setPlanLength (f : ReqFrame) (length : Nat)
  /-- RUN_PLAN (R124); without a start index it starts at 0. -/
  | runPlan (f : ReqFrame) (start : Option Nat)
  /-- STOP_PLAN (R125). -/
  | stopPlan (f : ReqFrame)
  /-- ACCEPT_PEAK (R135). -/
  | acceptPeak (f : ReqFrame)
  /-- FORCE_ACCEPT (R135). -/
  | forceAccept (f : ReqFrame)
  /-- ABORT_STEP (R146). -/
  | abortStep (f : ReqFrame)
  /-- CONTINUE (R149). -/
  | continueStep (f : ReqFrame)
  /-- RESTART_STEP (R150). -/
  | restartStep (f : ReqFrame)
  /-- SKIP_STEP (R151). -/
  | skipStep (f : ReqFrame)
  /-- RESUME_NEXT (R153). -/
  | resumeNext (f : ReqFrame)
  /-- PAUSE (R155). -/
  | pause (f : ReqFrame)
  /-- SET_STEP_MODE (R155). -/
  | setStepMode (f : ReqFrame) (mode : Nat)
  /-- RESUME_PLAN (R156). -/
  | resumePlan (f : ReqFrame)
  /-- SET_NOTICE_MASK (R180). -/
  | setNoticeMask (f : ReqFrame) (mask : BitVec 16)
  /-- RESET_PLAN (R126). -/
  | resetPlan (f : ReqFrame)
  /-- SET_BRANCH (R3). -/
  | setBranch (f : ReqFrame) (branch state : Nat)
  /-- SET_TEMPERATURE (R10). -/
  | setTemperature (f : ReqFrame) (celsius : Int)
  /-- SET_MUTE (R93): a mask with bit 0 for H and bit 1 for V. -/
  | setMute (f : ReqFrame) (mask : BitVec 8)
  /-- SET_TX_POWER (R94). -/
  | setTxPower (f : ReqFrame) (power : Int)
  /-- CLEAR_TX_FAULT (R90). -/
  | clearTxFault (f : ReqFrame)
  /-- WAIVE (R163). -/
  | waive (f : ReqFrame) (seq : Nat)
  /-- PURGE_SUPERSEDED (R164). -/
  | purgeSuperseded (f : ReqFrame)
  /-- REOPEN (R172). -/
  | reopen (f : ReqFrame)
  /-- LOAD_PROFILE (R193). -/
  | loadProfile (f : ReqFrame) (image : List Byte)
  /-- SET_EPOCH (R195). -/
  | setEpoch (f : ReqFrame) (offset : BitVec 32)
  /-- RESET_PART (R180). -/
  | resetPart (f : ReqFrame)
  deriving DecidableEq, Repr

end Sys2Proof
end

