-- ==== Sys2Proof/Config.lean ====
section
/-! DEFINITION. What the spec leaves to the installation or does not state: the pins as they stand in `State.reset`,
and the free values, which have no body so that nothing can be proved of them. -/

namespace Sys2Proof

/-- The straps as State.reset reads them. DESIGN CHOICE (log 1): the pins are the installation's; unsafe. -/
def Config.resetStraps : Straps := { endSel := 0, iptMode := 0, iptAddr := 0 }

/-- Whether State.reset finds a meter attached. DESIGN CHOICE (log 1): the presence line is the installation's; unsafe. -/
def Config.resetAttached : Bool := false

/-- The frequency of the alignment tone while the pointing branch has no deviation (R38 gives none for the class
NONE): a FREE VALUE for each draw (log 23); safe. -/
opaque Config.silentToneHz : Nat → Nat

/-- How many 2,048-bit blocks a polarization's generator delivers in the millisecond that begins at the given counter
value (R67 gives no bit rate): a FREE VALUE (log 24); safe. -/
opaque Config.patternBlocks : Nat → Pol → Nat

end Sys2Proof
end

