-- ==== Sys2Proof/Machine/Types.lean ====
section
/-! DEFINITION. The kinds of data the blocks hold: named sets in the order in which the rules give them in full (R178
numbers them in that order), records, and one value per branch, polarization, port or channel. -/

namespace Sys2Proof.Machine

/-! ## One value per name -/

/-- One value for each branch MH, MV, DH, DV. -/
structure PerBranch (α : Type) where
  mh : α
  mv : α
  dh : α
  dv : α
  deriving DecidableEq, Repr

def PerBranch.get {α : Type} (x : PerBranch α) : Branch → α
  | .mh => x.mh
  | .mv => x.mv
  | .dh => x.dh
  | .dv => x.dv

def PerBranch.set {α : Type} (x : PerBranch α) (b : Branch) (v : α) : PerBranch α :=
  match b with
  | .mh => { x with mh := v }
  | .mv => { x with mv := v }
  | .dh => { x with dh := v }
  | .dv => { x with dv := v }

def PerBranch.all {α : Type} (v : α) : PerBranch α := ⟨v, v, v, v⟩

def PerBranch.map {α β : Type} (g : α → β) (x : PerBranch α) : PerBranch β :=
  ⟨g x.mh, g x.mv, g x.dh, g x.dv⟩

/-- One value for each polarization. -/
structure PerPol (α : Type) where
  h : α
  v : α
  deriving DecidableEq, Repr

def PerPol.get {α : Type} (x : PerPol α) : Pol → α
  | .h => x.h
  | .v => x.v

def PerPol.set {α : Type} (x : PerPol α) (p : Pol) (a : α) : PerPol α :=
  match p with
  | .h => { x with h := a }
  | .v => { x with v := a }

def PerPol.all {α : Type} (a : α) : PerPol α := ⟨a, a⟩

def PerPol.map {α β : Type} (g : α → β) (x : PerPol α) : PerPol β := ⟨g x.h, g x.v⟩

/-- One value for each port. -/
structure PerPort (α : Type) where
  installer : α
  unit      : α
  deriving DecidableEq, Repr

def PerPort.get {α : Type} (x : PerPort α) : Port → α
  | .installer => x.installer
  | .unit => x.unit

def PerPort.set {α : Type} (x : PerPort α) (p : Port) (a : α) : PerPort α :=
  match p with
  | .installer => { x with installer := a }
  | .unit => { x with unit := a }

/-- One value for each measurement channel 0 to 7. -/
structure PerChannel (α : Type) where
  c0 : α
  c1 : α
  c2 : α
  c3 : α
  c4 : α
  c5 : α
  c6 : α
  c7 : α
  deriving DecidableEq, Repr

def PerChannel.get {α : Type} (x : PerChannel α) : Fin 8 → α
  | 0 => x.c0
  | 1 => x.c1
  | 2 => x.c2
  | 3 => x.c3
  | 4 => x.c4
  | 5 => x.c5
  | 6 => x.c6
  | 7 => x.c7

def PerChannel.set {α : Type} (x : PerChannel α) (i : Fin 8) (a : α) : PerChannel α :=
  match i with
  | 0 => { x with c0 := a }
  | 1 => { x with c1 := a }
  | 2 => { x with c2 := a }
  | 3 => { x with c3 := a }
  | 4 => { x with c4 := a }
  | 5 => { x with c5 := a }
  | 6 => { x with c6 := a }
  | 7 => { x with c7 := a }

def PerChannel.all {α : Type} (a : α) : PerChannel α := ⟨a, a, a, a, a, a, a, a⟩

def PerChannel.map {α β : Type} (g : α → β) (x : PerChannel α) : PerChannel β :=
  ⟨g x.c0, g x.c1, g x.c2, g x.c3, g x.c4, g x.c5, g x.c6, g x.c7⟩

def allBranches : List Branch := [.mh, .mv, .dh, .dv]
def allPols : List Pol := [.h, .v]
def allChannels : List (Fin 8) := [0, 1, 2, 3, 4, 5, 6, 7]

/-- A timer: absent while it does not run, else the milliseconds left. -/
abbrev Timer := Option Nat

/-! ## Named sets -/

/-- The request modes in the order of R85. -/
inductive RequestMode where
  | traffic | cwBoth | cwH | cwV | pattern | off
  deriving DecidableEq, Repr

/-- The state of one polarization of a transmitter, in the order of R84. -/
inductive TxState where
  | off | cw | pattern | traffic
  deriving DecidableEq, Repr

/-- A transmitter's settle state (R84). -/
inductive SettleState where
  | settled | settling | fault
  deriving DecidableEq, Repr

/-- The polarizations a test or a step names: H, V or BOTH. -/
inductive Pols where
  | h | v | both
  deriving DecidableEq, Repr

/-- The parties that own channels, tests and turn requests; NONE is an absent owner. -/
inductive Party where
  | installer | unit | plan
  deriving DecidableEq, Repr

/-- The end letters. -/
inductive EndLetter where
  | a | b
  deriving DecidableEq, Repr

/-- The scale codes 1 to 5 of R185. -/
inductive Scale where
  | db10 | db100 | count | millivolt | second
  deriving DecidableEq, Repr

/-- The statuses in the order of the introduction's table (R183: codes 0x00 to 0x0F). -/
inductive Status where
  | ok | busy | starting | unknownCommand | badLength | badArgument | notPermitted | wrongState | owned
  | noSpace | notFound | notAtPeak | causeActive | closed | badProfile | empty
  deriving DecidableEq, Repr

/-- The notice kinds 1 to 12 (R181). -/
inductive NoticeKind where
  | peerState | turnState | classChange | peakAdvance | channelState | txState | testDone | stepDone
  | planState | suspended | entryAppended | profileStatus
  deriving DecidableEq, Repr

/-- A field of a payload: an unsigned number or a signed number of the given width in bytes (R178). -/
inductive Field where
  | u (width n : Nat)
  | s (width : Nat) (v : Int)
  deriving DecidableEq, Repr

/-! ## Receive branches (chapter 1) -/

/-- The sample flags (R7), bits 0 to 5 of the flag byte (R183). -/
structure Flags where
  belowRange : Bool := false
  aboveRange : Bool := false
  uncal      : Bool := false
  tempStale  : Bool := false
  tempUnset  : Bool := false
  settling   : Bool := false
  deriving DecidableEq, Repr

inductive Origin where
  | profile | default
  deriving DecidableEq, Repr

inductive TempStatus where
  | unset | fresh | stale
  deriving DecidableEq, Repr

/-- What a seeded branch holds: the accumulator and the latest values (R1). -/
structure Seed where
  acc   : Int
  code  : Nat
  level : Int
  flags : Flags
  time  : Nat
  deriving DecidableEq, Repr

/-- A branch record (R1); `seed` is present exactly while seeded is yes. -/
structure BranchRec where
  fitted : Bool
  active : Bool
  table  : List (Nat × Int)
  origin : Origin
  slope  : Int
  shift  : Nat
  seed   : Option Seed
  deriving DecidableEq, Repr

/-- The temperature record (R1). -/
structure Temperature where
  held   : Int
  status : TempStatus
  timer  : Timer
  deriving DecidableEq, Repr

/-- The Branch Level Unit. -/
structure Blu where
  branches : PerBranch BranchRec
  temp     : Temperature
  deriving DecidableEq, Repr

/-! ## Pointing (chapter 2) -/

/-- The lobe classes in the order of R21. -/
inductive LobeClass where
  | none | unreferenced | noSignal | offPath | side | skirt | main | above | cross
  deriving DecidableEq, Repr

/-- Why a predicted level is absent (R23). -/
inductive PredReason where
  | none | unreferenced | cross
  deriving DecidableEq, Repr

/-- A predicted level with its NOMINAL indication, or its absence with the reason (R21, R23). -/
inductive Predicted where
  | absent (r : PredReason)
  | level (v : Int) (nominal : Bool)
  deriving DecidableEq, Repr

/-- A held peak with its marker (R29); `uncal` says the sample that set it carried UNCAL (log 26). -/
structure Peak where
  held   : Int
  marker : Int
  uncal  : Bool
  deriving DecidableEq, Repr

/-- A pointing record (R21). -/
structure PointRec where
  pred   : Predicted
  dev    : Option Int
  cls    : LobeClass
  cand   : Option (LobeClass × Nat)
  stable : Nat
  peak   : Option Peak
  deriving DecidableEq, Repr

/-- A far-source record (R21, R22). -/
inductive FarSource where
  | nominal
  | reported (power : Int)
  | off
  deriving DecidableEq, Repr

/-- The cadences of R38. -/
inductive Cadence where
  | silent | continuous | four | two | one
  deriving DecidableEq, Repr

/-- The Pointing Unit. -/
structure Ptu where
  recs         : PerBranch PointRec
  far          : PerPol FarSource
  pointing     : Branch
  voltage      : Nat
  freq         : Nat
  cadence      : Cadence
  /-- Milliseconds since the cadence began. -/
  cadencePhase : Nat
  burst        : Timer
  deriving DecidableEq, Repr

/-! ## Channels and the sample store (chapter 3) -/

/-- A quantity with its source (R44). -/
inductive Quantity where
  | rawCode (b : Branch)
  | level (b : Branch)
  | smoothed (b : Branch) (fine : Bool)
  | deviation (b : Branch)
  | fadeMargin (b : Branch)
  | xpd (p : Pol)
  | divDiff (p : Pol)
  | farSmoothed (b : Branch)
  | errInterval (p : Pol)
  deriving DecidableEq, Repr

/-- A sample entry: its 16-bit value and its flags (R42). -/
structure Sample where
  value : Int
  flags : Flags
  deriving DecidableEq, Repr

/-- A page's header (R42). -/
structure PageHeader where
  seq    : Nat
  time   : Nat
  gap    : Nat
  short  : Bool
  endRun : Bool
  deriving DecidableEq, Repr

/-- A page record (R42): a FREE page holds no entries and has no header. -/
inductive Page where
  | free
  | filling (hdr : PageHeader) (entries : List Sample)
  | ready (hdr : PageHeader) (entries : List Sample)
  deriving DecidableEq, Repr

inductive HaltCause where
  | command | sourceLost | suspended
  deriving DecidableEq, Repr

/-- The states of a channel that is not FREE; the halt cause is present only while HALTED (R42). -/
inductive ChanState where
  | bound | running | halted (c : HaltCause) | done
  deriving DecidableEq, Repr

/-- The causes a CHANNEL_STATE notice carries, in the order of R42. -/
inductive StateCause where
  | command | sourceLost | suspended | ownerLost
  deriving DecidableEq, Repr

inductive Policy where
  | lose | overwrite
  deriving DecidableEq, Repr

/-- A channel record of a channel that is not FREE (R42). An UNBOUNDED budget or remaining count is absent here. -/
structure ChanRec where
  owner     : Party
  state     : ChanState
  quantity  : Quantity
  interval  : Nat
  budget    : Option Nat
  remaining : Option Nat
  stored    : Nat
  missed    : Nat
  dropped   : Nat
  gap       : Nat
  pageSize  : Nat
  pageCount : Nat
  policy    : Policy
  hold      : Bool
  first     : Nat
  pages     : List Page
  fill      : Option Nat
  timer     : Timer
  stream    : Option Port
  deriving DecidableEq, Repr

/-- An open export stream (R59); its members are the channels whose `stream` names its port. -/
structure StreamRec where
  quantum : Nat
  current : Option (Fin 8)
  run     : Nat
  deriving DecidableEq, Repr

/-- The Channel Unit: a FREE channel is absent, and so is a closed stream. -/
structure Chu where
  channels : PerChannel (Option ChanRec)
  streams  : PerPort (Option StreamRec)
  deriving DecidableEq, Repr

/-! ## Error testing (chapter 4) -/

inductive TestState where
  | idle | running | paused | stopped
  deriving DecidableEq, Repr

inductive EndCause where
  | complete | command | preempted | replaced | ownerLost | closed | reset
  deriving DecidableEq, Repr

inductive Sync where
  | hunt | sync
  deriving DecidableEq, Repr

inductive IntervalClass where
  | clean | errored | severe
  deriving DecidableEq, Repr

/-- What START fixes for a test (R66); absent while IDLE. -/
structure TestSetup where
  pols     : Pols
  duration : Nat
  severe   : Nat
  deriving DecidableEq, Repr

/-- The test record (R66). -/
structure TestRec where
  state     : TestState
  owner     : Option Party
  setup     : Option TestSetup
  completed : Nat
  cause     : Option EndCause
  timer     : Timer
  deriving DecidableEq, Repr

/-- The counts of the interval in progress (R66). -/
structure Interval where
  blocks    : Nat
  errored   : Nat
  bitErrors : Nat
  hunt      : Bool
  deriving DecidableEq, Repr

/-- A polarization's totals (R66). -/
structure Totals where
  clean      : Nat
  errored    : Nat
  severe     : Nat
  outage     : Nat
  bits       : Nat
  bitErrors  : Nat
  syncLosses : Nat
  deriving DecidableEq, Repr

/-- A counting record (R66) with the checker's register (R68). -/
structure CountRec where
  sync    : Sync
  good    : Nat
  bad     : Nat
  reg     : BitVec 15
  current : Interval
  outage  : Bool
  pend    : List IntervalClass
  totals  : Totals
  deriving DecidableEq, Repr

/-- A pattern generator (R67): stage i of the register is bit i - 1. -/
structure Generator where
  running : Bool
  reg     : BitVec 15
  /-- The blocks it handed to the modem's pattern path in the last millisecond, oldest first (log 60). -/
  delivered : List (BitVec 2048)
  deriving DecidableEq, Repr

/-- The Error Test Unit. -/
structure Etu where
  test   : TestRec
  counts : PerPol CountRec
  gens   : PerPol Generator
  deriving DecidableEq, Repr

/-! ## Transmit mode arbiter (chapter 5) -/

/-- The driven outputs (R84, R85): the freeze power is present exactly while the power-freeze line is asserted. -/
structure Driven where
  h      : TxState
  v      : TxState
  freeze : Option Int
  deriving DecidableEq, Repr

/-- Which slot decided the arbitration result (R84). -/
inductive Winner where
  | peer | plan | installer | default
  deriving DecidableEq, Repr

/-- The arbiter record (R84); the arbitration result and the winner are computed from the slots and the mask (R86). -/
structure Tma where
  peerSlot : Option RequestMode
  planSlot : Option RequestMode
  instSlot : Option RequestMode
  mute     : PerPol Bool
  driven   : Driven
  change   : Nat
  settle   : SettleState
  timer    : Timer
  /-- The traffic power, absent while UNSET. -/
  power    : Option Int
  deriving DecidableEq, Repr

/-! ## Peer coordination (chapter 6) -/

/-- The handover indication of a peer frame (R184). -/
inductive Indication where
  | none | ready | closed
  deriving DecidableEq, Repr

/-- The fields of a peer frame (R99, R184). -/
structure PeerFrame where
  phase  : Bool
  linkId : Nat
  letter : EndLetter
  h      : TxState
  v      : TxState
  settle : SettleState
  mute   : PerPol Bool
  power  : Int
  levels : PerBranch (Option (Int × Flags))
  req    : Option RequestMode
  grant  : Bool
  ind    : Indication
  digest : Check
  echo   : Option Check
  deriving DecidableEq, Repr

inductive MismatchReason where
  | linkId | sameEnd | unset
  deriving DecidableEq, Repr

/-- The peer state, with the reason while MISMATCH (R97). -/
inductive PeerState where
  | solo | heard | mismatch (r : MismatchReason) | paired
  deriving DecidableEq, Repr

inductive FarMatch where
  | matched | settling | different
  deriving DecidableEq, Repr

/-- The request side (R97): the requester and the requested far mode are absent while NONE; released, the far mode
match and the mode it was formed against (log 20) are present only while HOLDING. -/
inductive RequestSide where
  | none
  | requesting (who : Party) (mode : RequestMode)
  | holding (who : Party) (mode : RequestMode) (released : Bool) (mtch : FarMatch) (against : RequestMode)
  | deferred (who : Party) (mode : RequestMode)
  deriving DecidableEq, Repr

/-- The turn state formed from the two sides (R97). -/
inductive TurnState where
  | none | requesting | holding | deferred | granted | deferredGranted
  deriving DecidableEq, Repr

/-- The reasons a side of a turn ends, in the order of R105's table. -/
inductive TurnReason where
  | released | grantWithdrawn | holdExpired | tornDown | requestWithdrawn
  deriving DecidableEq, Repr

/-- The Peer Coordination Unit (R97). -/
structure Pcu where
  phase     : Bool
  compTimer : Timer
  out       : PerBranch (Option (Int × Flags))
  own       : Option PeerFrame
  last      : Option PeerFrame
  /-- The millisecond counter at the last taken frame. -/
  takenAt   : Option Nat
  silence   : Timer
  peer      : PeerState
  req       : RequestSide
  /-- The granted mode, present exactly while GRANTED. -/
  grant     : Option RequestMode
  silent    : Bool
  hold      : Timer
  deriving DecidableEq, Repr

/-! ## The plan (chapters 7 and 8) -/

inductive StepKind where
  | align | level | xpd | diversity | errtest | soak | wait | handover
  deriving DecidableEq, Repr

inductive OnFail where
  | stop | continueOn | repeatStep (count : Nat)
  deriving DecidableEq, Repr

inductive WaitCond where
  | peerPaired | turnFree | timeOnly
  deriving DecidableEq, Repr

/-- The limit members of a step as the plan table holds them, each possibly absent (R121). -/
structure Limits where
  tolerance   : Option Nat
  windowBelow : Option Nat
  windowAbove : Option Nat
  minXpd      : Option Nat
  maxDiff     : Option Nat
  errored     : Option Nat
  severe      : Option Nat
  outage      : Option Nat
  minFade     : Option Nat
  maxBelow    : Option Nat
  maxEvents   : Option Nat
  deriving DecidableEq, Repr

/-- The limits resolved for an attempt (R121). -/
structure Resolved where
  tolerance   : Nat
  windowBelow : Nat
  windowAbove : Nat
  minXpd      : Nat
  maxDiff     : Nat
  errored     : Nat
  severe      : Nat
  outage      : Nat
  minFade     : Nat
  maxBelow    : Nat
  maxEvents   : Nat
  deriving DecidableEq, Repr

/-- A step's channel field (R120). -/
structure StepChannel where
  channel  : Fin 8
  quantity : Quantity
  interval : Nat
  deriving DecidableEq, Repr

/-- A step entry of the plan table (R120); `branches` is in branch-number order without duplicates. -/
structure Step where
  kind     : StepKind
  branches : List Branch
  pols     : Option Pols
  duration : Option Nat
  farMode  : Option RequestMode
  locMode  : Option RequestMode
  limits   : Limits
  channel  : Option StepChannel
  onFail   : OnFail
  label    : Nat
  wait     : Option WaitCond
  deriving DecidableEq, Repr

/-- The plan states in the order of R119. -/
inductive PlanState where
  | idle | loaded | running | paused | suspended | halted | complete | closed
  deriving DecidableEq, Repr

inductive HaltReason where
  | onFail | recordFull | suspensionLimit
  deriving DecidableEq, Repr

inductive StepPhase where
  | prepare | settle | measure | conclude
  deriving DecidableEq, Repr

/-- The suspension causes in the order of R144. -/
inductive Cause where
  | unitMute | txFault | remoteMode | peerLoss | sourceLoss | installerAbort
  deriving DecidableEq, Repr

/-- A record time, with EPOCH_UNSET where no epoch was set (R195). -/
structure RecTime where
  value : Nat
  unset : Bool
  deriving DecidableEq, Repr

/-- A branch's sums of a LEVEL step (R136). -/
structure LevelAcc where
  levelSum : Int
  predSum  : Int
  count    : Nat
  nominal  : Bool
  uncal    : Bool
  deriving DecidableEq, Repr

/-- A half's sums of an XPD step (R137). -/
structure XpdAcc where
  sum     : Int
  count   : Nat
  atLeast : Bool
  uncal   : Bool
  deriving DecidableEq, Repr

/-- A polarization's sums of a DIVERSITY step (R138). -/
structure DivAcc where
  signed : Int
  magn   : Int
  count  : Nat
  uncal  : Bool
  deriving DecidableEq, Repr

/-- A branch's figures of a SOAK step (R140); `range` is the least and greatest smoothed level. -/
structure SoakAcc where
  range  : Option (Int × Int)
  below  : Nat
  events : Nat
  flag   : Bool
  count  : Nat
  uncal  : Bool
  deriving DecidableEq, Repr

/-- The accumulators of the step kinds (R119). -/
structure Acc where
  level : PerBranch LevelAcc
  xpd   : PerPol XpdAcc
  div   : PerPol DivAcc
  soak  : PerBranch SoakAcc
  wakes : Nat
  deriving DecidableEq, Repr

/-- The held resources of a step (R119). -/
structure HeldRes where
  channel   : Bool
  localMode : Bool
  turn      : Bool
  test      : Bool
  deriving DecidableEq, Repr

/-- The step context (R119). -/
structure StepCtx where
  attempt      : Nat
  repeats      : Nat
  phase        : StepPhase
  half         : Option Pol
  elapsed      : Nat
  started      : Bool
  phaseTimer   : Timer
  measureTimer : Timer
  startTime    : RecTime
  suspensions  : Nat
  held         : HeldRes
  /-- Whether the step left PREPARE with its far condition holding (R145). -/
  reached      : Bool
  /-- Whether the end of its test with cause COMPLETE is kept (R148). -/
  testEnded    : Bool
  acc          : Acc
  limits       : Resolved
  deriving DecidableEq, Repr

/-- A transmitter's effective states and settle state, as a suspension record keeps them (R147). -/
structure TxPicture where
  h      : TxState
  v      : TxState
  settle : SettleState
  deriving DecidableEq, Repr

/-- Peer state, turn state and silent flag, as a suspension record keeps them (R147). -/
structure PeerPicture where
  peer   : PeerState
  turn   : TurnState
  silent : Bool
  deriving DecidableEq, Repr

/-- The suspension record (R147). `remaining` is present when the step holds a channel; an UNBOUNDED count is absent
inside it. -/
structure SuspRec where
  primary   : Cause
  causes    : List Cause
  index     : Nat
  attempt   : Nat
  phase     : StepPhase
  elapsed   : Nat
  time      : RecTime
  localTx   : Option TxPicture
  farTx     : Option TxPicture
  peerTurn  : Option PeerPicture
  branch    : Option Branch
  remaining : Option (Option Nat)
  deriving DecidableEq, Repr

inductive PauseReason where
  | pause | stepped
  deriving DecidableEq, Repr

/-- A step start: the index with the attempt and the repeats left it starts with (R127, R155). -/
structure StepStart where
  index   : Nat
  attempt : Nat
  repeats : Nat
  deriving DecidableEq, Repr

/-- The pause record (R155). -/
structure PauseRec where
  reason : PauseReason
  next   : StepStart
  time   : RecTime
  seen   : List Cause
  deriving DecidableEq, Repr

/-- The reasons of PLAN_STATE, in the order of R143. -/
inductive PlanReason where
  | run | stop | reset | load | suspend | continued | restart | skip | resume | complete | close | reopen
  | onFail | recordFull | suspensionLimit | pause | stepped
  deriving DecidableEq, Repr

/-- What the plan engine takes next within the present command (R127 to R133). -/
inductive Todo where
  | start (st : StepStart)
  | prepare
  | settle
  | measure
  deriving DecidableEq, Repr

/-- The Plan Engine (R119, R147, R155). -/
structure Ple where
  table      : List (Option Step)
  length     : Nat
  state      : PlanState
  halt       : Option HaltReason
  position   : Option Nat
  stepMode   : Bool
  pauseReq   : Bool
  ctx        : Option StepCtx
  susp       : Option SuspRec
  limitTimer : Timer
  pauseRec   : Option PauseRec
  todo       : Option Todo
  deriving DecidableEq, Repr

/-! ## The acceptance record (chapter 9) -/

inductive Verdict where
  | pass | fail | waived | aborted | incomplete
  deriving DecidableEq, Repr

/-- The reasons of results in the order of R185: R134's seven, the six causes, and chapter 9's three. -/
inductive Reason where
  | limit | noData | settle | noChannel | forced | timeout | stopped
  | cause (c : Cause)
  | openItems | noRoom | noPeerEcho
  deriving DecidableEq, Repr

/-- The item codes in the order of R185 (1 to 26). -/
inductive ItemCode where
  | deviation | smoothed | xpdH | xpdV | divDiffH | divDiffV
  | heldPeak | meanLevel | minLevel | maxLevel | divAbsH | divAbsV | secondsCounted | secondsBelow | fadeEvents
  | errored | severe | outage | elapsed | wakeCount
  | waivedSequence | profileCrc | digestLocal | digestPeer | openSteps | firstOpen
  deriving DecidableEq, Repr

/-- Where an item belongs: a branch, a polarization, or neither. -/
inductive Place where
  | branch (b : Branch)
  | pol (p : Pol)
  | nowhere
  deriving DecidableEq, Repr

/-- A measurement item (R134). -/
structure Item where
  code      : ItemCode
  place     : Place
  value     : Int
  scale     : Scale
  atLeast   : Bool := false
  nominal   : Bool := false
  falsePeak : Bool := false
  uncal     : Bool := false
  deriving DecidableEq, Repr

inductive EntryKind where
  | stepResult | waiver | profileChanged | reopened | handover
  deriving DecidableEq, Repr

/-- The step an entry belongs to (R160). -/
structure StepTag where
  index   : Nat
  label   : Nat
  attempt : Nat
  deriving DecidableEq, Repr

/-- An entry (R160). -/
structure Entry where
  seq        : Nat
  kind       : EntryKind
  step       : Option StepTag
  verdict    : Option Verdict
  reason     : Option Reason
  startTime  : RecTime
  endTime    : RecTime
  suspensions : Nat
  superseded : Bool
  ref        : Option Nat
  items      : List Item
  deriving DecidableEq, Repr

/-- The record states in the order of R159. -/
inductive RecordState where
  | opened | closing | closed
  deriving DecidableEq, Repr

/-- The Acceptance Record (R159). -/
structure Acr where
  entries     : List Entry
  state       : RecordState
  next        : Nat
  localDigest : Option Check
  peerDigest  : Option Check
  echo        : Option Check
  held        : Option Entry
  deriving DecidableEq, Repr

/-! ## Ports (chapter 10) -/

/-- A response (R178). -/
structure Response where
  status    : Status
  echo      : Nat
  clamped   : Bool
  discarded : Bool
  payload   : List Field
  deriving DecidableEq, Repr

/-- A notice (R181). -/
structure Notice where
  kind    : NoticeKind
  payload : List Field
  deriving DecidableEq, Repr

/-- A frame a port sends (R175). -/
inductive OutFrame where
  | response (r : Response)
  | notice (n : Notice) (overflow : Bool)
  deriving DecidableEq, Repr

/-- Which of the waiting frames is being sent. -/
inductive FrameKind where
  | response | refusal | notice
  deriving DecidableEq, Repr

/-- What the port last put out: nothing yet, NOT_READY, or a frame, whole or cut off. -/
inductive PortOut where
  | nothing
  | notReady
  | frame (f : OutFrame) (whole : Bool)
  deriving DecidableEq, Repr

/-- The held refusal: the command echo of its BUSY response and its count (R174, R177). -/
structure Refused where
  echo  : Nat
  count : Nat
  deriving DecidableEq, Repr

/-- A port record (R174). -/
structure PortRec where
  /-- The command code of the request in service. -/
  inService : Option Nat
  response  : Option Response
  refusal   : Option Refused
  queue     : List Notice
  overflow  : Bool
  mask      : BitVec 16
  /-- The frame that is being sent or must be sent again from its start (R175, R176). -/
  begun     : Option FrameKind
  /-- Whether the sending of the head notice has begun and it is not yet delivered (R181). -/
  headBegun : Bool
  out       : PortOut
  deriving DecidableEq, Repr

/-- The Port Interface (R174). -/
structure Pif where
  ports    : PerPort PortRec
  present  : Bool
  /-- The installer receiver disregards what arrives, after a BAD_LENGTH (R177). -/
  resync   : Bool
  /-- The RESET_PART response has been delivered and the part reset is due (R180). -/
  resetDue : Bool
  deriving DecidableEq, Repr

/-! ## The link profile (chapter 11) -/

/-- The path figures of an 18-byte LINK body (R189). -/
structure PathFigures where
  farPower  : Int
  farTxLoss : Int
  farGain   : Int
  mainGain  : Int
  divGain   : Int
  pathLoss  : Int
  deriving DecidableEq, Repr

structure LinkValues where
  linkId    : Nat
  letter    : EndLetter
  fitted    : PerBranch Bool
  commPower : Int
  path      : Option PathFigures
  deriving DecidableEq, Repr

structure BranchValues where
  rxLoss    : Int
  threshold : Option Int
  slope     : Int
  shift     : Nat
  dwell     : Nat
  table     : List (Nat × Int)
  deriving DecidableEq, Repr

structure WindowValues where
  hi         : Int
  main       : Int
  edge       : Int
  side       : Int
  hysteresis : Int
  tolerance  : Nat
  deriving DecidableEq, Repr

structure TimingValues where
  holdTime  : Nat
  suspLimit : Nat
  deriving DecidableEq, Repr

/-- The TEST values (R189): the severe percent and the step limits. -/
structure TestValues where
  percent     : Nat
  windowBelow : Nat
  windowAbove : Nat
  minXpd      : Nat
  maxDiff     : Nat
  errored     : Nat
  severe      : Nat
  outage      : Nat
  minFade     : Nat
  maxBelow    : Nat
  maxEvents   : Nat
  deriving DecidableEq, Repr

/-- The sections found in an image; an absent one is in default (R188, R189). -/
structure Sections where
  link    : Option LinkValues
  branch  : PerBranch (Option BranchValues)
  windows : Option WindowValues
  timing  : Option TimingValues
  test    : Option TestValues
  deriving DecidableEq, Repr

inductive ProfileStatus where
  | reading | memory | port | default | bad
  deriving DecidableEq, Repr

/-- The rejections in the order of R190. -/
inductive RejectReason where
  | format | length | incomplete | check | offset | sectionCount | sectionLength | order | range
  deriving DecidableEq, Repr

structure Rejection where
  reason : RejectReason
  offset : Option Nat
  deriving DecidableEq, Repr

/-- The Profile Loader (R187). The active profile is its sections; `Pfl` readers resolve an absent one to its
defaults. -/
structure Pfl where
  active    : Sections
  crc       : Option Check
  status    : ProfileStatus
  rejection : Option Rejection
  straps    : Straps
  /-- The epoch, absent while UNSET. -/
  epoch     : Option (BitVec 32)
  deriving DecidableEq, Repr

/-! ## Time and reports -/

/-- The two counters (R195) and the milliseconds within the second. -/
structure Clock where
  ms  : Nat
  sec : Nat
  sub : Nat
  deriving DecidableEq, Repr

/-- What the blocks report to the PLE within a command. -/
inductive Report where
  /-- A branch went OFF (R4). -/
  | branchOff (b : Branch)
  /-- The PTU has taken a sample (R131). -/
  | sample (b : Branch)
  /-- A branch's current class changed, with the old class and the new class (R28). -/
  | classChange (b : Branch) (old new : LobeClass)
  /-- New effective states or a new settle state (R87, R88). -/
  | transmitter
  /-- The arbiter entered FAULT (R89). -/
  | txFault
  /-- The mute mask changed (R93). -/
  | maskChange
  /-- The peer state changed (R104). -/
  | peerState (old new : PeerState)
  /-- The turn changed; an ended request comes with its requester and reason (R105). -/
  | turnState (ended : Option (Party × TurnReason))
  /-- The far mode match changed (R115). -/
  | farMatch (m : FarMatch)
  /-- An interval of the plan's test was completed (R132). -/
  | testProgress (completed : Nat)
  /-- The plan's test ended (R80). -/
  | testEnd (cause : EndCause)
  /-- ABORT_STEP was taken (R146). -/
  | abort
  /-- The installer's meter was detached (R146). -/
  | presenceLoss
  deriving DecidableEq, Repr

end Sys2Proof.Machine
end

