-- ==== Sys2Proof/Machine/Defaults.lean ====
section
/-! DEFINITION. Each block as power-on leaves it (R19, R41, R65, R83, R96, R118, R126, R158, R173, R174, R187), and the
default values of the profile (R8, R189, R121). -/

namespace Sys2Proof.Machine

/-- The default calibration table (R8). -/
def defaultTable : List (Nat × Int) :=
  (List.range 16).map fun i => (273 * i, -1200 + 80 * (i : Int))

/-- A branch before the first profile (R19); its table, slope and shift are log 2's choice. -/
def BranchRec.powerOn : BranchRec :=
  { fitted := false, active := false, table := defaultTable, origin := .default, slope := 0, shift := 3, seed := none }

/-- R19. -/
def Blu.powerOn : Blu :=
  { branches := .all BranchRec.powerOn, temp := { held := 25, status := .unset, timer := none } }

/-- R41. -/
def PointRec.powerOn : PointRec :=
  { pred := .absent .none, dev := none, cls := .none, cand := none, stable := 0, peak := none }

/-- R41; the tone's frequency and cadence position are log 3's choice. -/
def Ptu.powerOn : Ptu :=
  { recs := .all PointRec.powerOn, far := .all .nominal, pointing := .mh, voltage := 0, freq := 1000,
    cadence := .silent, cadencePhase := 0, burst := none }

/-- R65. -/
def Chu.powerOn : Chu := { channels := .all none, streams := ⟨none, none⟩ }

def Interval.zero (hunt : Bool) : Interval := { blocks := 0, errored := 0, bitErrors := 0, hunt := hunt }

def Totals.zero : Totals :=
  { clean := 0, errored := 0, severe := 0, outage := 0, bits := 0, bitErrors := 0, syncLosses := 0 }

/-- R83. -/
def TestRec.powerOn : TestRec :=
  { state := .idle, owner := none, setup := none, completed := 0, cause := none, timer := none }

/-- R83. -/
def CountRec.powerOn : CountRec :=
  { sync := .hunt, good := 0, bad := 0, reg := BitVec.allOnes 15, current := .zero false, outage := false,
    pend := [], totals := .zero }

/-- R67, R83: the generators run from the first profile on. -/
def Etu.powerOn (running : Bool) : Etu :=
  { test := .powerOn, counts := .all .powerOn,
    gens := .all { running := running, reg := BitVec.allOnes 15, delivered := [] } }

/-- R96. -/
def Tma.powerOn : Tma :=
  { peerSlot := none, planSlot := none, instSlot := none, mute := .all false,
    driven := { h := .traffic, v := .traffic, freeze := none }, change := 0, settle := .settling, timer := none,
    power := none }

/-- R118; `timer` is the composition timer, which part reset starts at once. No own frame stands until the next
composition (DESIGN CHOICE, log 67). -/
def Pcu.powerOn (timer : Timer) : Pcu :=
  { phase := false, compTimer := timer, out := .all none, own := none, last := none, takenAt := none, silence := none,
    peer := .solo, req := .none, grant := none, silent := false, hold := none }

/-- R126, R158. -/
def Ple.powerOn : Ple :=
  { table := List.replicate 32 none, length := 0, state := .idle, halt := none, position := none, stepMode := false,
    pauseReq := false, ctx := none, susp := none, limitTimer := none, pauseRec := none, todo := none }

/-- R173. -/
def Acr.powerOn : Acr :=
  { entries := [], state := .opened, next := 1, localDigest := none, peerDigest := none, echo := none, held := none }

/-- A port record at power-on and part reset, with its mask (R174). -/
def PortRec.reset (mask : BitVec 16) : PortRec :=
  { inService := none, response := none, refusal := none, queue := [], overflow := false, mask := mask, begun := none,
    headBegun := false, out := .nothing }

/-- R174: the unit port's mask holds all twelve kinds, the installer port's none. -/
def Pif.reset (present : Bool) : Pif :=
  { ports := { installer := .reset 0, unit := .reset 0x0FFF }, present := present, resync := false, resetDue := false }

/-- No section in force: every kind takes its defaults (R189). -/
def Sections.none : Sections :=
  { link := .none, branch := .all .none, windows := .none, timing := .none, test := .none }

/-- R187; the active profile before the first application is log 4's choice. -/
def Pfl.powerOn (straps : Straps) : Pfl :=
  { active := .none, crc := .none, status := .reading, rejection := .none, straps := straps, epoch := .none }

/-! ## Defaults of the profile (R189) -/

/-- END_SEL 0 is end A, 1 is end B (R194). -/
def Straps.letter (x : Straps) : EndLetter := if x.endSel = 0 then .a else .b

def LinkValues.default (letter : EndLetter) : LinkValues :=
  { linkId := 0, letter := letter, fitted := .all true, commPower := 100, path := none }

def BranchValues.default : BranchValues :=
  { rxLoss := 0, threshold := none, slope := 0, shift := 3, dwell := 20, table := defaultTable }

def WindowValues.default : WindowValues :=
  { hi := 40, main := 30, edge := 150, side := 350, hysteresis := 2, tolerance := 5 }

def TimingValues.default : TimingValues := { holdTime := 300, suspLimit := 1800 }

/-- Severe percent 30 (R189) and the built-in limits of R121. -/
def TestValues.default : TestValues :=
  { percent := 30, windowBelow := 30, windowAbove := 30, minXpd := 250, maxDiff := 100, errored := 0, severe := 0,
    outage := 0, minFade := 100, maxBelow := 0, maxEvents := 0 }

/-- The LINK values in force (R189). -/
def Pfl.link (p : Pfl) : LinkValues := p.active.link.getD (.default (Straps.letter p.straps))

/-- The BRANCH values in force for a branch (R189). -/
def Pfl.branch (p : Pfl) (b : Branch) : BranchValues := (p.active.branch.get b).getD .default

def Pfl.windows (p : Pfl) : WindowValues := p.active.windows.getD .default

def Pfl.timing (p : Pfl) : TimingValues := p.active.timing.getD .default

def Pfl.test (p : Pfl) : TestValues := p.active.test.getD .default

end Sys2Proof.Machine
end

