-- ==== Sys2Proof/Machine/State.lean ====
section
/-! DEFINITION. The machine's state: the ten blocks, the clock and the queue, as plain data. -/

namespace Sys2Proof.Machine

/-- What stops the part: nothing. The spec names no command on which it stops, so there is no constructor and no
command answers a fault; the part's own faults (the arbiter's FAULT, a rejected image, HALTED) are states. Safe. -/
inductive Fault where
  deriving DecidableEq, Repr

/-- What a command is refused with by the model itself, apart from the statuses a request is refused with. -/
inductive Refusal where
  /-- The command has no meaning in the model yet; raised by exec's refused arms alone, of which there is none. Safe. -/
  | notModelled (mnemonic : String)
  deriving DecidableEq, Repr

/-- The state of the part. -/
structure State where
  blu     : Blu
  ptu     : Ptu
  chu     : Chu
  etu     : Etu
  tma     : Tma
  pcu     : Pcu
  ple     : Ple
  acr     : Acr
  pif     : Pif
  pfl     : Pfl
  clock   : Clock
  /-- The commands that are waiting, first in, first out (the model's queue). -/
  pending : List Instr
  /-- What the blocks have reported to the PLE in the present command; empty between commands (log 21). -/
  reports : List Report
  /-- How many free values have been drawn (log 23). -/
  draws   : Nat
  deriving DecidableEq, Repr

/-- The part as power-on leaves it, with the given straps and presence line (R191 and the chapters' reset rules). -/
def State.powerOn (straps : Straps) (attached : Bool) : State :=
  { blu := .powerOn, ptu := .powerOn, chu := .powerOn, etu := .powerOn false, tma := .powerOn, pcu := .powerOn none,
    ple := .powerOn, acr := .powerOn, pif := .reset attached, pfl := .powerOn straps,
    clock := { ms := 0, sec := 0, sub := 0 }, pending := [], reports := [], draws := 0 }

/-- The machine right after reset: power-on with the pins of log 1 and nothing waiting. -/
def State.reset : State := State.powerOn Config.resetStraps Config.resetAttached

end Sys2Proof.Machine
end

