-- ==== Sys2Proof/Machine/Arith.lean ====
section
/-! DEFINITION. The arithmetic the rules share: clamping, the roundings of the introduction, saturation, numbers as
bytes, and the check value (R186). -/

namespace Sys2Proof.Machine

/-- A value clamped into a range. -/
def clampInt (lo hi x : Int) : Int := if x < lo then lo else if hi < x then hi else x

def clampNat (lo hi n : Nat) : Nat := if n < lo then lo else if hi < n then hi else n

/-- One more, not above a bound. -/
def satSucc (bound n : Nat) : Nat := if n < bound then n + 1 else bound

/-- n / d for a positive d, rounded half away from zero. -/
def roundAway (n : Int) (d : Nat) : Int :=
  if 0 ≤ n then (2 * n + d) / (2 * d) else -((2 * (-n) + d) / (2 * d))

/-- The greatest integer not above x / 2^k: the arithmetic shift of R14. -/
def shiftFloor (x : Int) (k : Nat) : Int := x / (2 ^ k : Nat)

/-! ## Numbers as bytes (R183): most significant byte first, signed numbers in two's complement -/

/-- A number in so many bytes, most significant first; only the low bytes are kept. -/
def natBytes : Nat → Nat → List Byte
  | 0, _ => []
  | w + 1, n => BitVec.ofNat 8 (n / 256 ^ w) :: natBytes w n

/-- The unsigned number that bytes spell, most significant first. -/
def bytesNat (bs : List Byte) : Nat := bs.foldl (fun a b => a * 256 + b.toNat) 0

/-- The two's complement reading of an unsigned number of so many bytes. -/
def toSigned (w n : Nat) : Int :=
  if n < 2 ^ (8 * w - 1) then (n : Int) else (n : Int) - (2 ^ (8 * w) : Nat)

/-- A signed number in two's complement of so many bytes. -/
def intBytes (w : Nat) (v : Int) : List Byte := natBytes w (v % (2 ^ (8 * w) : Nat)).toNat

/-- The bytes of a payload field. -/
def Field.bytes : Field → List Byte
  | .u w n => natBytes w n
  | .s w v => intBytes w v

/-- How many bytes a field takes. -/
def Field.size : Field → Nat
  | .u w _ => w
  | .s w _ => w

def payloadBytes (fs : List Field) : List Byte := fs.flatMap Field.bytes

def payloadSize (fs : List Field) : Nat := fs.foldl (fun a f => a + f.size) 0

/-! ## The check value (R186) -/

/-- One bit of the register's shift: x^16 + x^12 + x^5 + 1. -/
def crcShift (c : Check) : Check := if c.msb then (c <<< 1) ^^^ 0x1021 else c <<< 1

/-- One byte, most significant bit first. -/
def crcByte (c : Check) (b : Byte) : Check :=
  Nat.repeat crcShift 8 (c ^^^ ((b.setWidth 16) <<< 8))

/-- The CRC of the bytes: the register starts at 0xFFFF, no reflection, no inversion. -/
def crc (bs : List Byte) : Check := bs.foldl crcByte 0xFFFF

end Sys2Proof.Machine
end

