-- ==== Sys2Proof/Decode.lean ====
section
/-! DEFINITION. Request frames (R183): the command that a complete frame's bytes spell, with the payload layouts of R178
(log 13, log 14). The opcode table gives no row any bits, so no table word spells a command (log 6). -/

namespace Sys2Proof

/-- The command that a word spells by the table's bits: the table gives none. -/
def decodeTableWord (_nbits _w : Nat) : Option Instr := none

/-! ## Reading a payload -/

/-- A payload being read: the bytes left, whether it has been long enough, and whether its presence bytes have been as
R178 gives them. -/
structure Cursor where
  rest  : List Byte
  fits  : Bool
  coded : Bool
  deriving DecidableEq, Repr

/-- An unsigned number of a width. -/
def Cursor.nat (c : Cursor) (w : Nat) : Nat × Cursor :=
  if c.rest.length < w then (0, { c with rest := [], fits := false })
  else (Machine.bytesNat (c.rest.take w), { c with rest := c.rest.drop w })

/-- A signed number of a width. -/
def Cursor.int (c : Cursor) (w : Nat) : Int × Cursor :=
  let n := c.nat w
  (Machine.toSigned w n.1, n.2)

/-- A field that may be absent (R178): a presence byte of 0 or 1, and zeros where it is absent. -/
def Cursor.opt (c : Cursor) (w : Nat) : Option Nat × Cursor :=
  let p := c.nat 1
  let n := p.2.nat w
  match p.1 with
  | 1 => (some n.1, n.2)
  | 0 => (none, { n.2 with coded := n.2.coded && n.1 == 0 })
  | _ => (none, { n.2 with coded := false })

/-- A signed field that may be absent. -/
def Cursor.optInt (c : Cursor) (w : Nat) : Option Int × Cursor :=
  let n := c.opt w
  (n.1.map (Machine.toSigned w), n.2)

/-- An unsigned field that may be absent, as an integer. -/
def Cursor.optNat (c : Cursor) (w : Nat) : Option Int × Cursor :=
  let n := c.opt w
  (n.1.map Int.ofNat, n.2)

/-- So many one-byte members of a list. -/
def Cursor.members (c : Cursor) : Nat → List Nat × Cursor
  | 0 => ([], c)
  | n + 1 =>
    let x := c.nat 1
    let r := x.2.members n
    (x.1 :: r.1, r.2)

/-! ## Step entries (R120, R122, log 25) -/

/-- The branch list: a presence byte, then a count byte and that many branch numbers. -/
def Cursor.branches (c : Cursor) : Option (List Nat) × Cursor :=
  let p := c.nat 1
  let n := p.2.nat 1
  match p.1 with
  | 1 =>
    let xs := n.2.members n.1
    (some xs.1, xs.2)
  | 0 => (none, { n.2 with coded := n.2.coded && n.1 == 0 })
  | _ => (none, { n.2 with coded := false })

/-- The limit members in the order of R121's table. -/
def Cursor.limits (c : Cursor) : RawLimits × Cursor :=
  let tolerance := c.optInt 2
  let windowBelow := tolerance.2.optInt 2
  let windowAbove := windowBelow.2.optInt 2
  let minXpd := windowAbove.2.optInt 2
  let maxDiff := minXpd.2.optInt 2
  let errored := maxDiff.2.optNat 4
  let severe := errored.2.optNat 4
  let outage := severe.2.optNat 4
  let minFade := outage.2.optInt 2
  let maxBelow := minFade.2.optNat 4
  let maxEvents := maxBelow.2.optNat 2
  ({ tolerance := tolerance.1, windowBelow := windowBelow.1, windowAbove := windowAbove.1, minXpd := minXpd.1,
     maxDiff := maxDiff.1, errored := errored.1, severe := severe.1, outage := outage.1, minFade := minFade.1,
     maxBelow := maxBelow.1, maxEvents := maxEvents.1 }, maxEvents.2)

/-- The channel field: a presence byte, then channel, quantity, source, scale and interval, or zeros. -/
def Cursor.channel (c : Cursor) : Option RawChannel × Cursor :=
  let p := c.nat 1
  let channel := p.2.nat 1
  let quantity := channel.2.nat 1
  let source := quantity.2.nat 1
  let scale := source.2.nat 1
  let interval := scale.2.nat 2
  let zero := channel.1 == 0 && quantity.1 == 0 && source.1 == 0 && scale.1 == 0 && interval.1 == 0
  match p.1 with
  | 1 =>
    (some { channel := channel.1, quantity := quantity.1, source := source.1, scale := scale.1, interval := interval.1 },
      interval.2)
  | 0 => (none, { interval.2 with coded := interval.2.coded && zero })
  | _ => (none, { interval.2 with coded := false })

/-- A step entry. -/
def Cursor.step (c : Cursor) : RawStep × Cursor :=
  let kind := c.nat 1
  let branches := kind.2.branches
  let pol := branches.2.opt 1
  let duration := pol.2.opt 4
  let farMode := duration.2.opt 1
  let locMode := farMode.2.opt 1
  let limits := locMode.2.limits
  let channel := limits.2.channel
  let onFail := channel.2.nat 1
  let repeats := onFail.2.nat 1
  let label := repeats.2.nat 2
  let wait := label.2.opt 1
  ({ kind := kind.1, branches := branches.1, pol := pol.1, duration := duration.1, farMode := farMode.1,
     locMode := locMode.1, limits := limits.1, channel := channel.1, onFail := onFail.1, repeats := repeats.1,
     label := label.1, wait := wait.1 }, wait.2)

/-- So many step entries. -/
def Cursor.steps (c : Cursor) : Nat → List RawStep × Cursor
  | 0 => ([], c)
  | n + 1 =>
    let x := c.step
    let r := x.2.steps n
    (x.1 :: r.1, r.2)

/-- The arguments of BIND in R47's order. -/
def Cursor.bindArgs (c : Cursor) : BindArgs × Cursor :=
  let channel := c.nat 1
  let quantity := channel.2.nat 1
  let source := quantity.2.nat 1
  let scale := source.2.nat 1
  let interval := scale.2.nat 2
  let budget := interval.2.nat 3
  let pageSize := budget.2.nat 1
  let pageCount := pageSize.2.nat 1
  let policy := pageCount.2.nat 1
  let hold := policy.2.nat 1
  ({ channel := channel.1, quantity := quantity.1, source := source.1, scale := scale.1, interval := interval.1,
     budget := budget.1, pageSize := pageSize.1, pageCount := pageCount.1, policy := policy.1, hold := hold.1 }, hold.2)

/-! ## The frame -/

/-- What the port sees of a frame whose payload has been read to a cursor. -/
def frameOf (port : Port) (gap : Bool) (declared carried : Nat) (c : Cursor) : ReqFrame :=
  { port := port, declared := declared, carried := carried, fits := c.fits && c.rest.isEmpty, coded := c.coded,
    gap := gap }

/-- The command of a code with its payload: R179's numbering, R178's layouts. -/
def commandOf (mk : Cursor → ReqFrame) (payload : List Byte) (code : Nat) : Instr :=
  let c : Cursor := { rest := payload, fits := true, coded := true }
  let a := c.nat 1
  let w := c.nat 2
  match code with
  | 0x01 => .branchStatus (mk c)
  | 0x02 =>
    let b := a.2.nat 1
    let k := b.2.nat 1
    .readValue (mk k.2) a.1 b.1 k.1
  | 0x03 => .pointingStatus (mk c)
  | 0x04 => .channelStatus (mk a.2) a.1
  | 0x05 => .nextSegment (mk c)
  | 0x06 => .testStatus (mk c)
  | 0x07 => .txStatus (mk c)
  | 0x08 => .peerStatus (mk c)
  | 0x09 =>
    let b := a.2.nat 1
    .readSteps (mk b.2) a.1 b.1
  | 0x0A => .planStatus (mk c)
  | 0x0B => .recordStatus (mk c)
  | 0x0C =>
    let b := w.2.nat 1
    .readEntries (mk b.2) w.1 b.1
  | 0x0D => .portStatus (mk c)
  | 0x0E => .profileStatus (mk c)
  | 0x0F => .resetPeak (mk a.2) a.1
  | 0x10 => .setPointing (mk a.2) a.1
  | 0x11 => .bind (mk c.bindArgs.2) c.bindArgs.1
  | 0x12 => .run (mk a.2) a.1
  | 0x13 => .halt (mk a.2) a.1
  | 0x14 => .resume (mk a.2) a.1
  | 0x15 => .flush (mk a.2) a.1
  | 0x16 => .unbind (mk a.2) a.1
  | 0x17 => .openStream (mk (c.opt 1).2) (c.opt 1).1
  | 0x18 => .closeStream (mk c)
  | 0x19 => .join (mk a.2) a.1
  | 0x1A => .leave (mk a.2) a.1
  | 0x1B =>
    let d := a.2.nat 4
    let p := d.2.opt 1
    .startTest (mk p.2) a.1 d.1 p.1
  | 0x1C => .stopTest (mk c)
  | 0x1D => .txRequest (mk a.2) a.1
  | 0x1E => .txRelease (mk c)
  | 0x1F => .turnRequest (mk a.2) a.1
  | 0x20 => .turnRelease (mk c)
  | 0x21 =>
    let n := a.2.nat 1
    let xs := n.2.steps n.1
    .loadSteps (mk xs.2) a.1 xs.1
  | 0x22 => .setPlanLength (mk a.2) a.1
  | 0x23 => .runPlan (mk (c.opt 1).2) (c.opt 1).1
  | 0x24 => .stopPlan (mk c)
  | 0x25 => .acceptPeak (mk c)
  | 0x26 => .forceAccept (mk c)
  | 0x27 => .abortStep (mk c)
  | 0x28 => .continueStep (mk c)
  | 0x29 => .restartStep (mk c)
  | 0x2A => .skipStep (mk c)
  | 0x2B => .resumeNext (mk c)
  | 0x2C => .pause (mk c)
  | 0x2D => .setStepMode (mk a.2) a.1
  | 0x2E => .resumePlan (mk c)
  | 0x2F => .setNoticeMask (mk w.2) (BitVec.ofNat 16 w.1)
  | 0x30 => .resetPlan (mk c)
  | 0x31 =>
    let b := a.2.nat 1
    .setBranch (mk b.2) a.1 b.1
  | 0x32 => .setTemperature (mk (c.int 2).2) (c.int 2).1
  | 0x33 => .setMute (mk a.2) (BitVec.ofNat 8 a.1)
  | 0x34 => .setTxPower (mk (c.int 2).2) (c.int 2).1
  | 0x35 => .clearTxFault (mk c)
  | 0x36 => .waive (mk w.2) w.1
  | 0x37 => .purgeSuperseded (mk c)
  | 0x38 => .reopen (mk c)
  | 0x39 => .loadProfile (mk { c with rest := [] }) payload
  | 0x3A => .setEpoch (mk (c.nat 4).2) (BitVec.ofNat 32 (c.nat 4).1)
  | 0x3B => .resetPart (mk c)
  | _ => .unknownRequest (mk { c with rest := [] }) code

/-- A complete request frame that arrived on a port (R183): byte 0 is the code, bytes 1 and 2 the payload's length. A
frame too short for its header is none (log 13). -/
def decodeRequest (port : Port) (gap : Bool) : List Byte → Option Instr
  | code :: hi :: lo :: payload =>
    some (commandOf (frameOf port gap (hi.toNat * 256 + lo.toNat) payload.length) payload code.toNat)
  | _ => none

end Sys2Proof
end

