-- ==== Sys2Proof/Machine/Flags.lean ====
section
/-! DEFINITION. Sample flag sets (R7, R33, R34, R183). -/

namespace Sys2Proof.Machine

def Flags.union (a b : Flags) : Flags :=
  { belowRange := a.belowRange || b.belowRange, aboveRange := a.aboveRange || b.aboveRange, uncal := a.uncal || b.uncal,
    tempStale := a.tempStale || b.tempStale, tempUnset := a.tempUnset || b.tempUnset,
    settling := a.settling || b.settling }

/-- Bits 0 to 5 of the flag byte (R183). -/
def Flags.byte (f : Flags) : Nat :=
  f.belowRange.toNat + 2 * f.aboveRange.toNat + 4 * f.uncal.toNat + 8 * f.tempStale.toNat + 16 * f.tempUnset.toNat +
    32 * f.settling.toNat

/-- The flags that the lower six bits of a byte spell (R183). -/
def Flags.ofByte (n : Nat) : Flags :=
  { belowRange := n.testBit 0, aboveRange := n.testBit 1, uncal := n.testBit 2, tempStale := n.testBit 3,
    tempUnset := n.testBit 4, settling := n.testBit 5 }

/-- What a calibration lookup gives: the uncorrected level and the range flags (R6, R9). -/
structure Lookup where
  level : Int
  below : Bool
  above : Bool
  deriving DecidableEq, Repr

/-- A sample's flag set (R7): the lookup's range flags, the table's origin, the temperature status, and whether either
transmitter is settling. -/
def sampleFlags (l : Lookup) (origin : Origin) (temp : TempStatus) (settling : Bool) : Flags :=
  { belowRange := l.below, aboveRange := l.above, uncal := origin == .default, tempStale := temp == .stale,
    tempUnset := temp == .unset, settling := settling }

end Sys2Proof.Machine
end

