-- ==== Sys2Proof/Machine/Operands.lean ====
section
/-! DEFINITION. The numbers of named sets (R178: from 0 in the order in which the set is given in full, unless a layout
of R183 to R185 gives others), in both directions where a request or a frame carries them (log 14). -/

namespace Sys2Proof.Machine

def Branch.num : Branch → Nat
  | .mh => 0
  | .mv => 1
  | .dh => 2
  | .dv => 3

def Branch.ofNum : Nat → Option Branch
  | 0 => some .mh
  | 1 => some .mv
  | 2 => some .dh
  | 3 => some .dv
  | _ => none

/-- The polarization a branch receives (R23). -/
def Branch.pol : Branch → Pol
  | .mh | .dh => .h
  | .mv | .dv => .v

/-- Whether a branch is behind the main antenna (R23). -/
def Branch.isMain : Branch → Bool
  | .mh | .mv => true
  | .dh | .dv => false

/-- The main and the diversity branch of a polarization (R34). -/
def Pol.main : Pol → Branch
  | .h => .mh
  | .v => .mv

def Pol.div : Pol → Branch
  | .h => .dh
  | .v => .dv

def Pol.other : Pol → Pol
  | .h => .v
  | .v => .h

def Pol.num : Pol → Nat
  | .h => 0
  | .v => 1

def Pol.ofNum : Nat → Option Pol
  | 0 => some .h
  | 1 => some .v
  | _ => none

def Pols.num : Pols → Nat
  | .h => 0
  | .v => 1
  | .both => 2

def Pols.ofNum : Nat → Option Pols
  | 0 => some .h
  | 1 => some .v
  | 2 => some .both
  | _ => none

/-- Whether a choice of polarizations names one (R66). -/
def Pols.has : Pols → Pol → Bool
  | .both, _ => true
  | .h, .h => true
  | .v, .v => true
  | _, _ => false

/-- A channel number 0 to 7. -/
def channelOf (n : Nat) : Option (Fin 8) := if h : n < 8 then some ⟨n, h⟩ else none

/-- A set of the values yes and no, numbered in the order in which every state table gives them. -/
def yesNo (b : Bool) : Nat := if b then 0 else 1

def yesNoOf : Nat → Option Bool
  | 0 => some true
  | 1 => some false
  | _ => none

def RequestMode.num : RequestMode → Nat
  | .traffic => 0
  | .cwBoth => 1
  | .cwH => 2
  | .cwV => 3
  | .pattern => 4
  | .off => 5

def RequestMode.ofNum : Nat → Option RequestMode
  | 0 => some .traffic
  | 1 => some .cwBoth
  | 2 => some .cwH
  | 3 => some .cwV
  | 4 => some .pattern
  | 5 => some .off
  | _ => none

def TxState.num : TxState → Nat
  | .off => 0
  | .cw => 1
  | .pattern => 2
  | .traffic => 3

def TxState.ofNum : Nat → Option TxState
  | 0 => some .off
  | 1 => some .cw
  | 2 => some .pattern
  | 3 => some .traffic
  | _ => none

def SettleState.num : SettleState → Nat
  | .settled => 0
  | .settling => 1
  | .fault => 2

def SettleState.ofNum : Nat → Option SettleState
  | 0 => some .settled
  | 1 => some .settling
  | 2 => some .fault
  | _ => none

/-- The end letters as bytes (R184). -/
def EndLetter.byte : EndLetter → Nat
  | .a => 0x41
  | .b => 0x42

def EndLetter.ofByte : Nat → Option EndLetter
  | 0x41 => some .a
  | 0x42 => some .b
  | _ => none

def Indication.num : Indication → Nat
  | .none => 0
  | .ready => 1
  | .closed => 2

def Indication.ofNum : Nat → Option Indication
  | 0 => some .none
  | 1 => some .ready
  | 2 => some .closed
  | _ => .none

/-- The scale codes (R185). -/
def Scale.num : Scale → Nat
  | .db10 => 1
  | .db100 => 2
  | .count => 3
  | .millivolt => 4
  | .second => 5

def Status.num : Status → Nat
  | .ok => 0x00
  | .busy => 0x01
  | .starting => 0x02
  | .unknownCommand => 0x03
  | .badLength => 0x04
  | .badArgument => 0x05
  | .notPermitted => 0x06
  | .wrongState => 0x07
  | .owned => 0x08
  | .noSpace => 0x09
  | .notFound => 0x0A
  | .notAtPeak => 0x0B
  | .causeActive => 0x0C
  | .closed => 0x0D
  | .badProfile => 0x0E
  | .empty => 0x0F

def NoticeKind.num : NoticeKind → Nat
  | .peerState => 1
  | .turnState => 2
  | .classChange => 3
  | .peakAdvance => 4
  | .channelState => 5
  | .txState => 6
  | .testDone => 7
  | .stepDone => 8
  | .planState => 9
  | .suspended => 10
  | .entryAppended => 11
  | .profileStatus => 12

def Origin.num : Origin → Nat
  | .profile => 0
  | .default => 1

def TempStatus.num : TempStatus → Nat
  | .unset => 0
  | .fresh => 1
  | .stale => 2

def LobeClass.num : LobeClass → Nat
  | .none => 0
  | .unreferenced => 1
  | .noSignal => 2
  | .offPath => 3
  | .side => 4
  | .skirt => 5
  | .main => 6
  | .above => 7
  | .cross => 8

def PredReason.num : PredReason → Nat
  | .unreferenced => 0
  | .cross => 1
  | .none => 2

/-- The cadences in the order of R38's table. -/
def Cadence.num : Cadence → Nat
  | .continuous => 0
  | .four => 1
  | .two => 2
  | .one => 3
  | .silent => 4

/-- An owner, NONE first (R42, R66). -/
def ownerNum : Option Party → Nat
  | none => 0
  | some .installer => 1
  | some .unit => 2
  | some .plan => 3

/-- A requester (R97). -/
def Party.num : Party → Nat
  | .installer => 0
  | .unit => 1
  | .plan => 2

/-- The party that a port stands for (R43, R110). -/
def Port.party : Port → Party
  | .installer => .installer
  | .unit => .unit

/-- The stream a channel belongs to (R42): none, INSTALLER, UNIT. -/
def streamNum : Option Port → Nat
  | none => 0
  | some .installer => 1
  | some .unit => 2

/-- A channel's state, FREE first (R42). -/
def chanStateNum : Option ChanState → Nat
  | none => 0
  | some .bound => 1
  | some .running => 2
  | some (.halted _) => 3
  | some .done => 4

def HaltCause.num : HaltCause → Nat
  | .command => 0
  | .sourceLost => 1
  | .suspended => 2

def StateCause.num : StateCause → Nat
  | .command => 0
  | .sourceLost => 1
  | .suspended => 2
  | .ownerLost => 3

/-- The cause a CHANNEL_STATE notice carries on entering HALTED (R64). -/
def HaltCause.toState : HaltCause → StateCause
  | .command => .command
  | .sourceLost => .sourceLost
  | .suspended => .suspended

def Policy.num : Policy → Nat
  | .lose => 0
  | .overwrite => 1

def Policy.ofNum : Nat → Option Policy
  | 0 => some .lose
  | 1 => some .overwrite
  | _ => none

/-- A quantity's place in R44's table. -/
def Quantity.num : Quantity → Nat
  | .rawCode _ => 0
  | .level _ => 1
  | .smoothed _ _ => 2
  | .deviation _ => 3
  | .fadeMargin _ => 4
  | .xpd .h => 5
  | .xpd .v => 6
  | .divDiff .h => 7
  | .divDiff .v => 8
  | .farSmoothed _ => 9
  | .errInterval _ => 10

/-- The source byte of a quantity: a branch number, a polarization number, or 0, without a presence byte, where it names
none (DESIGN CHOICE, log 56). -/
def Quantity.source : Quantity → Nat
  | .rawCode b | .level b | .smoothed b _ | .deviation b | .fadeMargin b | .farSmoothed b => Branch.num b
  | .errInterval p => Pol.num p
  | .xpd _ | .divDiff _ => 0

def Quantity.scale : Quantity → Scale
  | .rawCode _ | .errInterval _ => .count
  | .smoothed _ true => .db100
  | _ => .db10

/-- Whether a scale byte lies in the set of its field (R178, log 57): DB10 and DB100 beside SMOOTHED, whose reading it
picks, and any of the five scale codes beside another quantity, for which it is not read. -/
def scaleOk (code scale : Nat) : Bool := decide (1 ≤ scale) && decide (scale ≤ if code = 2 then 2 else 5)

/-- The quantity that a code and a source name, with SMOOTHED's reading (R44): none for a code the part does not know or
a source that names no branch or polarization. The source of XPD and DIV_DIFF is not read: R35 says so of READ_VALUE,
and log 56 of BIND and LOAD_STEPS. -/
def Quantity.named (code source : Nat) (fine : Bool) : Option Quantity :=
  match code with
  | 0 => (Branch.ofNum source).map .rawCode
  | 1 => (Branch.ofNum source).map .level
  | 2 => (Branch.ofNum source).map fun b => .smoothed b fine
  | 3 => (Branch.ofNum source).map .deviation
  | 4 => (Branch.ofNum source).map .fadeMargin
  | 5 => some (.xpd .h)
  | 6 => some (.xpd .v)
  | 7 => some (.divDiff .h)
  | 8 => some (.divDiff .v)
  | 9 => (Branch.ofNum source).map .farSmoothed
  | 10 => (Pol.ofNum source).map .errInterval
  | _ => none

/-- The quantity that a code, a source and a scale name (R44, R47). -/
def Quantity.ofArgs (code source scale : Nat) : Option Quantity :=
  if scaleOk code scale then Quantity.named code source (decide (scale = 2)) else none

/-- The branches of this end that a channel's source is formed from (R44): none for FAR_SMOOTHED, whose branch is the far
end's (log 55). -/
def Quantity.formedFrom : Quantity → List Branch
  | .rawCode b | .level b | .smoothed b _ | .deviation b | .fadeMargin b => [b]
  | .farSmoothed _ | .errInterval _ => []
  | .xpd _ => [.mh, .mv]
  | .divDiff p => [Pol.main p, Pol.div p]

/-- Whether a quantity is sampled at classifications and not by a timer (R45). -/
def Quantity.isErrInterval : Quantity → Bool
  | .errInterval _ => true
  | _ => false

def TestState.num : TestState → Nat
  | .idle => 0
  | .running => 1
  | .paused => 2
  | .stopped => 3

def EndCause.num : EndCause → Nat
  | .complete => 0
  | .command => 1
  | .preempted => 2
  | .replaced => 3
  | .ownerLost => 4
  | .closed => 5
  | .reset => 6

def Sync.num : Sync → Nat
  | .hunt => 0
  | .sync => 1

def outageNum (o : Bool) : Nat := if o then 1 else 0

/-- A class's number, in an ERR_INTERVAL entry (R185) and for a pending interval in TEST_STATUS (DESIGN CHOICE,
log 66). -/
def IntervalClass.num : IntervalClass → Nat
  | .clean => 0
  | .errored => 1
  | .severe => 2

def Winner.num : Winner → Nat
  | .peer => 0
  | .plan => 1
  | .installer => 2
  | .default => 3

def PeerState.num : PeerState → Nat
  | .solo => 0
  | .heard => 1
  | .mismatch _ => 2
  | .paired => 3

def MismatchReason.num : MismatchReason → Nat
  | .linkId => 0
  | .sameEnd => 1
  | .unset => 2

/-- The mismatch reason, present only in MISMATCH (R97). -/
def PeerState.reason : PeerState → Option MismatchReason
  | .mismatch r => some r
  | _ => none

def TurnState.num : TurnState → Nat
  | .none => 0
  | .requesting => 1
  | .holding => 2
  | .deferred => 3
  | .granted => 4
  | .deferredGranted => 5

def TurnReason.num : TurnReason → Nat
  | .released => 0
  | .grantWithdrawn => 1
  | .holdExpired => 2
  | .tornDown => 3
  | .requestWithdrawn => 4

def FarMatch.num : FarMatch → Nat
  | .matched => 0
  | .settling => 1
  | .different => 2

def StepKind.num : StepKind → Nat
  | .align => 0
  | .level => 1
  | .xpd => 2
  | .diversity => 3
  | .errtest => 4
  | .soak => 5
  | .wait => 6
  | .handover => 7

def StepKind.ofNum : Nat → Option StepKind
  | 0 => some .align
  | 1 => some .level
  | 2 => some .xpd
  | 3 => some .diversity
  | 4 => some .errtest
  | 5 => some .soak
  | 6 => some .wait
  | 7 => some .handover
  | _ => none

def WaitCond.num : WaitCond → Nat
  | .peerPaired => 0
  | .turnFree => 1
  | .timeOnly => 2

def WaitCond.ofNum : Nat → Option WaitCond
  | 0 => some .peerPaired
  | 1 => some .turnFree
  | 2 => some .timeOnly
  | _ => none

def OnFail.num : OnFail → Nat
  | .stop => 0
  | .continueOn => 1
  | .repeatStep _ => 2

/-- The repetitions an on-fail choice allows (R120, R127). -/
def OnFail.count : OnFail → Nat
  | .repeatStep n => n
  | _ => 0

def PlanState.num : PlanState → Nat
  | .idle => 0
  | .loaded => 1
  | .running => 2
  | .paused => 3
  | .suspended => 4
  | .halted => 5
  | .complete => 6
  | .closed => 7

def HaltReason.num : HaltReason → Nat
  | .onFail => 0
  | .recordFull => 1
  | .suspensionLimit => 2

def HaltReason.toPlan : HaltReason → PlanReason
  | .onFail => .onFail
  | .recordFull => .recordFull
  | .suspensionLimit => .suspensionLimit

def StepPhase.num : StepPhase → Nat
  | .prepare => 0
  | .settle => 1
  | .measure => 2
  | .conclude => 3

def Cause.num : Cause → Nat
  | .unitMute => 0
  | .txFault => 1
  | .remoteMode => 2
  | .peerLoss => 3
  | .sourceLoss => 4
  | .installerAbort => 5

def PlanReason.num : PlanReason → Nat
  | .run => 0
  | .stop => 1
  | .reset => 2
  | .load => 3
  | .suspend => 4
  | .continued => 5
  | .restart => 6
  | .skip => 7
  | .resume => 8
  | .complete => 9
  | .close => 10
  | .reopen => 11
  | .onFail => 12
  | .recordFull => 13
  | .suspensionLimit => 14
  | .pause => 15
  | .stepped => 16

/-- The pause reasons, in the order in which R143 gives them. -/
def PauseReason.num : PauseReason → Nat
  | .pause => 0
  | .stepped => 1

def PauseReason.toPlan : PauseReason → PlanReason
  | .pause => .pause
  | .stepped => .stepped

/-- Verdict codes of an entry (R185): 0 stands for an absent one. -/
def Verdict.num : Verdict → Nat
  | .pass => 1
  | .fail => 2
  | .waived => 3
  | .aborted => 4
  | .incomplete => 5

/-- Reason codes of an entry (R185): 0 stands for an absent one. -/
def Reason.num : Reason → Nat
  | .limit => 1
  | .noData => 2
  | .settle => 3
  | .noChannel => 4
  | .forced => 5
  | .timeout => 6
  | .stopped => 7
  | .cause c => 8 + Cause.num c
  | .openItems => 14
  | .noRoom => 15
  | .noPeerEcho => 16

def EntryKind.num : EntryKind → Nat
  | .stepResult => 1
  | .waiver => 2
  | .profileChanged => 3
  | .reopened => 4
  | .handover => 5

/-- Item quantity codes 1 to 26 (R185). -/
def ItemCode.num : ItemCode → Nat
  | .deviation => 1
  | .smoothed => 2
  | .xpdH => 3
  | .xpdV => 4
  | .divDiffH => 5
  | .divDiffV => 6
  | .heldPeak => 7
  | .meanLevel => 8
  | .minLevel => 9
  | .maxLevel => 10
  | .divAbsH => 11
  | .divAbsV => 12
  | .secondsCounted => 13
  | .secondsBelow => 14
  | .fadeEvents => 15
  | .errored => 16
  | .severe => 17
  | .outage => 18
  | .elapsed => 19
  | .wakeCount => 20
  | .waivedSequence => 21
  | .profileCrc => 22
  | .digestLocal => 23
  | .digestPeer => 24
  | .openSteps => 25
  | .firstOpen => 26

def Place.num : Place → Nat
  | .branch b => Branch.num b
  | .pol .h => 4
  | .pol .v => 5
  | .nowhere => 0xFF

def RecordState.num : RecordState → Nat
  | .opened => 0
  | .closing => 1
  | .closed => 2

def ProfileStatus.num : ProfileStatus → Nat
  | .reading => 0
  | .memory => 1
  | .port => 2
  | .default => 3
  | .bad => 4

def RejectReason.num : RejectReason → Nat
  | .format => 0
  | .length => 1
  | .incomplete => 2
  | .check => 3
  | .offset => 4
  | .sectionCount => 5
  | .sectionLength => 6
  | .order => 7
  | .range => 8

/-! ## Payload fields (R178) -/

/-- The numbers of a verdict, a reason and an entry kind in a payload, from 0 in the order of R185 (log 14). -/
def Verdict.code (v : Verdict) : Nat := Verdict.num v - 1
def Reason.code (r : Reason) : Nat := Reason.num r - 1
def EntryKind.code (k : EntryKind) : Nat := EntryKind.num k - 1

/-- A field that may be absent, as an unsigned number of a width: a presence byte, then the number or zeros. -/
def optU (w : Nat) : Option Nat → List Field
  | some n => [.u 1 1, .u w n]
  | none => [.u 1 0, .u w 0]

/-- A field that may be absent, as a signed number. -/
def optS (w : Nat) : Option Int → List Field
  | some v => [.u 1 1, .s w v]
  | none => [.u 1 0, .s w 0]

/-- A group of fields that may be absent: a presence byte, then the fields, or as many zero bytes as they take. -/
def optGroup (size : Nat) : Option (List Field) → List Field
  | some fs => .u 1 1 :: fs
  | none => [.u 1 0, .u size 0]

/-- A list: a count byte, then the members. -/
def listOf (xs : List (List Field)) : List Field := .u 1 xs.length :: xs.flatten

def yes (b : Bool) : Field := .u 1 (yesNo b)

/-- A budget or remaining count: three bytes, 16,777,215 for UNBOUNDED (R178). -/
def budgetField : Option Nat → Field
  | some n => .u 3 n
  | none => .u 3 16777215

/-- A record time in the suspension and the pause record (R147, R155, R195): the four bytes of R178, then a byte for
EPOCH_UNSET, yes 0 and no 1 (DESIGN CHOICE, log 89). -/
def RecTime.fields (t : RecTime) : List Field := [.u 4 t.value, yes t.unset]

end Sys2Proof.Machine
end

