-- ==== Sys2Proof/Machine/Ops.lean ====
section
/-! DEFINITION. The operations every block shares: replacing one block's state, record time (R195), reporting to the
PLE, posting notices (R181), sending frames (R175, R176) and serving requests (R177, R178). -/

namespace Sys2Proof.Machine

/-! ## Replacing one block's state -/

def State.setBlu (s : State) (x : Blu) : State := { s with blu := x }
def State.setPtu (s : State) (x : Ptu) : State := { s with ptu := x }
def State.setChu (s : State) (x : Chu) : State := { s with chu := x }
def State.setEtu (s : State) (x : Etu) : State := { s with etu := x }
def State.setTma (s : State) (x : Tma) : State := { s with tma := x }
def State.setPcu (s : State) (x : Pcu) : State := { s with pcu := x }
def State.setPle (s : State) (x : Ple) : State := { s with ple := x }
def State.setAcr (s : State) (x : Acr) : State := { s with acr := x }
def State.setPif (s : State) (x : Pif) : State := { s with pif := x }
def State.setPfl (s : State) (x : Pfl) : State := { s with pfl := x }
def State.setClock (s : State) (x : Clock) : State := { s with clock := x }
def State.setPending (s : State) (x : List Instr) : State := { s with pending := x }
def State.setReports (s : State) (x : List Report) : State := { s with reports := x }
def State.setDraws (s : State) (n : Nat) : State := { s with draws := n }

/-- The record of one port. -/
def State.port (s : State) (p : Port) : PortRec := s.pif.ports.get p

def State.setPort (s : State) (p : Port) (x : PortRec) : State :=
  s.setPif { s.pif with ports := s.pif.ports.set p x }

/-! ## Time and reports -/

/-- Record time (R195): the seconds counter plus the epoch offset, wrapping at 32 bits, with EPOCH_UNSET while no epoch
has been set. -/
def State.recTime (s : State) : RecTime :=
  match s.pfl.epoch with
  | some e => { value := (s.clock.sec + e.toNat) % 2 ^ 32, unset := false }
  | none => { value := s.clock.sec % 2 ^ 32, unset := true }

/-- A block reports something to the PLE (log 21). -/
def State.report (s : State) (r : Report) : State := s.setReports (s.reports ++ [r])

/-- Runs an action of the PLE itself: what the blocks report of it does not come back to the PLE (log 22). -/
def State.hush (s : State) (act : State → State) : State := (act s).setReports s.reports

/-! ## Notices (R181) -/

/-- Whether a mask holds a kind: bit k - 1 stands for kind k (R183). -/
def maskHas (mask : BitVec 16) (k : NoticeKind) : Bool := mask.getLsbD (NoticeKind.num k - 1)

/-- A queue of 16 loses its oldest notice, or its second oldest while the head is being sent (R181). -/
def dropOldest (headBegun : Bool) : List Notice → List Notice
  | a :: b :: rest => if headBegun then a :: rest else b :: rest
  | _ => []

/-- A notice at the end of a port's queue (R181). -/
def PortRec.enqueue (r : PortRec) (n : Notice) : PortRec :=
  if r.queue.length < 16 then { r with queue := r.queue ++ [n] }
  else { r with queue := dropOldest r.headBegun r.queue ++ [n], overflow := true }

/-- A notice offered to a port: queued if the port's mask holds its kind. -/
def PortRec.offer (r : PortRec) (n : Notice) : PortRec := if maskHas r.mask n.kind then r.enqueue n else r

/-! ## Sending (R175, R176) -/

/-- The frame a port chooses next: the response waiting, then the held refusal, then the oldest notice. -/
def PortRec.choose (r : PortRec) : Option FrameKind :=
  if r.response.isSome then some .response
  else if r.refusal.isSome then some .refusal
  else if r.queue.isEmpty then none else some .notice

/-- The frame a read sends: the one whose sending has begun (log 17), else the one chosen. -/
def PortRec.toSend (r : PortRec) : Option FrameKind :=
  match r.begun with
  | some k => some k
  | none => r.choose

/-- The content of a waiting frame as it stands now; a BUSY response carries the refusal count (R183). A refusal that is
sent again after a count raised meanwhile carries the new count (R175, R177; DESIGN CHOICE, log 88), and a notice sent
again the overflow pending of that moment (log 16). -/
def PortRec.content (r : PortRec) : FrameKind → Option OutFrame
  | .response => r.response.map .response
  | .refusal => r.refusal.map fun x =>
      .response { status := .busy, echo := x.echo, clamped := false, discarded := false, payload := [.u 1 x.count] }
  | .notice => r.queue.head?.map fun n => .notice n r.overflow

/-- The bytes of a frame (R183). -/
def OutFrame.bytes : OutFrame → List Byte
  | .response r =>
    natBytes 1 (Status.num r.status) ++ natBytes 1 r.echo ++
      natBytes 1 (r.clamped.toNat + 2 * r.discarded.toNat) ++ natBytes 2 (payloadSize r.payload) ++
      payloadBytes r.payload
  | .notice n overflow =>
    natBytes 1 (NoticeKind.num n.kind) ++ natBytes 1 overflow.toNat ++ natBytes 2 (payloadSize n.payload) ++
      payloadBytes n.payload

/-- How many bytes a frame takes: the header of R183 and the payload. -/
def OutFrame.size : OutFrame → Nat
  | .response r => 5 + payloadSize r.payload
  | .notice n _ => 4 + payloadSize n.payload

/-- Whether a frame is RESET_PART's OK response, whose delivery makes the part reset due (R180). -/
def OutFrame.resets : OutFrame → Bool
  | .response r => r.status == .ok && r.echo == 0x3B
  | .notice _ _ => false

/-- A frame's sending begins; the head notice is then protected from discarding (R181). -/
def PortRec.begin (r : PortRec) (k : FrameKind) : PortRec :=
  { r with begun := some k, headBegun := r.headBegun || k == .notice }

/-- A frame is delivered: the response ends the service, the refusal is dropped, the notice leaves the queue and takes
overflow pending with it (R177, R181). -/
def PortRec.deliver (r : PortRec) : FrameKind → PortRec
  | .response => { r with inService := none, response := none, begun := none }
  | .refusal => { r with refusal := none, begun := none }
  | .notice =>
    { r with queue := r.queue.tail, overflow := false, begun := if r.begun = some .notice then none else r.begun,
             headBegun := false }

/-- The transport mode of the installer port: 0, 1 and 2 select those modes, and 3 selects mode 0 (R174, R194). -/
def State.iptMode (s : State) : Nat := if s.pfl.straps.iptMode = 3 then 0 else s.pfl.straps.iptMode.toNat

/-- Whether the installer port sends unprompted: modes 0 and 2 (R176). -/
def State.unprompted (s : State) : Bool := s.iptMode == 0 || s.iptMode == 2

/-- On modes 0 and 2 an idle installer port begins the next frame at once (R176, log 17). -/
def PortRec.kick (r : PortRec) : PortRec :=
  if r.begun.isSome then r
  else match r.choose with
    | some k => r.begin k
    | none => r

def State.kick (s : State) : State :=
  if s.unprompted && s.pif.present then s.setPort .installer (s.port .installer).kick else s

/-- A block posts a notice (R181): each port whose mask holds the kind queues a copy. -/
def State.post (s : State) (kind : NoticeKind) (payload : List Field) : State :=
  let n : Notice := { kind := kind, payload := payload }
  ((s.setPort .unit ((s.port .unit).offer n)).setPort .installer ((s.port .installer).offer n)).kick

/-- A port delivers a frame, and puts it out whole. Delivering RESET_PART's response makes the part reset due. -/
def State.deliver (s : State) (p : Port) (k : FrameKind) (f : OutFrame) : State :=
  let s := s.setPort p { (s.port p).deliver k with out := .frame f true }
  let s := s.setPif { s.pif with resetDue := s.pif.resetDue || f.resets }
  match p with
  | .installer => s.kick
  | .unit => s

/-! ## Serving requests (R177, R178) -/

/-- What the rule that owns a request answers. -/
structure Reply where
  status    : Status := .ok
  clamped   : Bool := false
  discarded : Bool := false
  payload   : List Field := []
  deriving DecidableEq, Repr

/-- A refusal changes nothing. -/
def refuse (st : Status) (s : State) : State × Reply := (s, { status := st })

/-- A request is taken with no payload. -/
def take (s : State) : State × Reply := (s, {})

/-- A request is taken and only reads. -/
def tell (fs : List Field) (s : State) : State × Reply := (s, { payload := fs })

/-- The response to a request becomes the response waiting, and the request is in service until it is delivered. -/
def State.answer (s : State) (p : Port) (code : Nat) (r : Reply) : State :=
  let resp : Response :=
    { status := r.status, echo := code, clamped := r.clamped, discarded := r.discarded, payload := r.payload }
  let s := s.setPort p { s.port p with inService := some code, response := some resp }
  match p with
  | .installer => s.kick
  | .unit => s

/-- Check 1 of R177: a BUSY response becomes the held refusal, or its count rises. -/
def State.refuseBusy (s : State) (p : Port) (code : Nat) : State :=
  let r := s.port p
  let x : Refused := match r.refusal with
    | some x => { x with count := satSucc 255 x.count }
    | none => { echo := code, count := 1 }
  let s := s.setPort p { r with refusal := some x }
  match p with
  | .installer => s.kick
  | .unit => s

/-- Whether the installer port takes no notice of a frame: no meter is attached (R176), or the receiver disregards what
arrives after a BAD_LENGTH, on mode 0 until a start byte that follows a gap (R177). -/
def State.disregards (s : State) (f : ReqFrame) : Bool :=
  match f.port with
  | .unit => false
  | .installer => !s.pif.present || (s.pif.resync && s.iptMode == 0 && !f.gap)

/-- A port's payload limit (R177). -/
def Port.limit : Port → Nat
  | .installer => 256
  | .unit => 1280

/-- Check 3 of R177, apart from the fit of the command's payload. -/
def badLength (f : ReqFrame) : Bool := decide (Port.limit f.port < f.declared) || f.declared != f.carried

/-- What the installer receiver does after BAD_LENGTH on modes 0 and 2 (R177). -/
def State.startResync (s : State) (p : Port) : State :=
  match p with
  | .unit => s
  | .installer => if s.unprompted then s.setPif { s.pif with resync := true } else s

/-- A frame that the receiver takes up ends the disregarding (R177). -/
def State.endResync (s : State) (p : Port) : State :=
  match p with
  | .unit => s
  | .installer => s.setPif { s.pif with resync := false }

/-- A complete request frame: R177's checks 1 to 3, then `act`, which answers for the rest. -/
def State.arrive (s : State) (f : ReqFrame) (code : Nat) (fits : Bool) (act : State → State × Reply) : State :=
  if s.disregards f then s
  else
    let s := s.endResync f.port
    if (s.port f.port).inService.isSome then s.refuseBusy f.port code
    else if s.pfl.status = .reading then s.answer f.port code { status := .starting }
    else if badLength f || !fits then (s.startResync f.port).answer f.port code { status := .badLength }
    else
      let r := act s
      r.1.answer f.port code r.2

/-- A request that either port may issue (R179). -/
def State.serve (s : State) (f : ReqFrame) (code : Nat) (act : State → State × Reply) : State :=
  s.arrive f code f.fits act

/-- A request of the unit port alone: NOT_PERMITTED from the installer port (R179). -/
def State.serveUnit (s : State) (f : ReqFrame) (code : Nat) (act : State → State × Reply) : State :=
  s.arrive f code f.fits fun s =>
    match f.port with
    | .unit => act s
    | .installer => refuse .notPermitted s

/-- The record is CLOSED and the request came from the installer port (R179): the owning rule refuses with CLOSED. -/
def State.closedTo (s : State) (f : ReqFrame) : Bool := f.port == .installer && s.acr.state == .closed

/-- The checks with which most of the owning rules begin: CLOSED for the installer port, then R178's BAD_ARGUMENT for
a badly coded payload. -/
def unlessClosed (f : ReqFrame) (act : State → State × Reply) (s : State) : State × Reply :=
  if s.closedTo f then refuse .closed s
  else if f.coded then act s
  else refuse .badArgument s

/-- R178's BAD_ARGUMENT for a badly coded payload, where the owning rule has no CLOSED check. -/
def ifCoded (f : ReqFrame) (act : State → State × Reply) (s : State) : State × Reply :=
  if f.coded then act s else refuse .badArgument s

end Sys2Proof.Machine
end

