-- ==== Sys2Proof/Machine/Level.lean ====
section
/-! DEFINITION. The arithmetic of the Branch Level Unit (chapter 1): lookup, correction, smoothing and the readings. -/

namespace Sys2Proof.Machine

/-! ## Calibration lookup (R6, R8, R9) -/

/-- The level at or above a breakpoint (c, l), by the breakpoints that follow it (R9). -/
def lookupFrom (c : Nat) (l : Int) : List (Nat × Int) → Nat → Lookup
  | [], _ => { level := l, below := false, above := true }
  | (c', l') :: rest, d =>
    if d < c' then
      { level := l + ((d : Int) - c) * (l' - l) / ((c' : Int) - c), below := false, above := false }
    else lookupFrom c' l' rest d

/-- R9's cases for a detector code. -/
def lookup (t : List (Nat × Int)) (d : Nat) : Lookup :=
  match t with
  | [] => { level := -1200, below := true, above := false }
  | (c, l) :: rest => if d < c then { level := l, below := true, above := false } else lookupFrom c l rest d

/-- The lock rule R6: level_0 with BELOW_RANGE. -/
def lookupUnlocked (t : List (Nat × Int)) : Lookup :=
  { level := (t.head?.map Prod.snd).getD (-1200), below := true, above := false }

/-! ## Temperature correction (R12) -/

/-- The correction C for a slope and a held temperature. -/
def correction (slope temp : Int) : Int := roundAway (slope * (temp - 25)) 100

/-- The corrected level x. -/
def corrected (slope temp level : Int) : Int := clampInt (-1200) 0 (level + correction slope temp)

/-! ## Smoothing (R13 to R15) -/

/-- The accumulator after a sample of corrected level x: seeded, or moved by the shifted difference. -/
def smooth (shift : Nat) (x : Int) : Option Int → Int
  | none => 256 * x
  | some a => a + shiftFloor (256 * x - a) shift

/-- The smoothed level, half up of A / 256 (R15). -/
def coarse (a : Int) : Int := (a + 128) / 256

/-- The fine reading, half up of A x 10 / 256 (R15). -/
def fine (a : Int) : Int := (a * 10 + 128) / 256

def Seed.smoothed (x : Seed) : Int := coarse x.acc

def State.branch (s : State) (b : Branch) : BranchRec := s.blu.branches.get b

def State.setBranchRec (s : State) (b : Branch) (r : BranchRec) : State :=
  s.setBlu { s.blu with branches := s.blu.branches.set b r }

/-- What a branch's accumulator and latest values hold; absent while it is not seeded. -/
def State.seed (s : State) (b : Branch) : Option Seed := (s.branch b).seed

/-- The smoothed level of a branch; absent while it is not seeded. -/
def State.smoothed (s : State) (b : Branch) : Option Int := (s.seed b).map Seed.smoothed

/-- The far end settles, as R7 reads it from the last taken frame. -/
def State.farSettling (s : State) : Bool :=
  s.pcu.peer == .paired && (s.pcu.last.map PeerFrame.settle) == some .settling

/-- What a sample leaves in an ACTIVE branch (R5, steps 1 to 6). -/
def State.convert (s : State) (r : BranchRec) (code : Nat) (lock : Bool) : Seed :=
  let l := if lock then lookup r.table code else lookupUnlocked r.table
  let x := corrected r.slope s.blu.temp.held l.level
  let flags := sampleFlags l r.origin s.blu.temp.status (s.tma.settle == .settling || s.farSettling)
  { acc := smooth r.shift x (r.seed.map Seed.acc), code := code, level := x, flags := flags, time := s.clock.ms }

end Sys2Proof.Machine
end

