-- ==== Sys2Proof/Machine/Pointing.lean ====
section
/-! DEFINITION. The Pointing Unit (chapter 2): far sources, predicted levels, classes, peaks, derived figures and the
alignment outputs. -/

namespace Sys2Proof.Machine

def State.point (s : State) (b : Branch) : PointRec := s.ptu.recs.get b

def State.setPoint (s : State) (b : Branch) (r : PointRec) : State :=
  s.setPtu { s.ptu with recs := s.ptu.recs.set b r }

/-! ## Far sources (R22) -/

/-- The far state of a polarization as a frame reports it. -/
def PeerFrame.state (f : PeerFrame) : Pol → TxState
  | .h => f.h
  | .v => f.v

/-- R22's rows for one polarization. -/
def farSource (peer : PeerState) (last : Option PeerFrame) (p : Pol) (old : FarSource) : FarSource :=
  if peer ≠ .paired then .nominal
  else match last with
    | none => .nominal
    | some f => match f.settle with
      | .fault => .off
      | .settling => old
      | .settled => if f.state p = .off then .off else .reported f.power

/-- Every stable count returns to 0 (R28). -/
def State.clearStable (s : State) : State :=
  s.setPtu { s.ptu with recs := s.ptu.recs.map fun r => { r with stable := 0 } }

/-- The PCU reports its peer state and last taken frame to the PTU (R22). -/
def State.updateFarSources (s : State) : State :=
  let far : PerPol FarSource :=
    { h := farSource s.pcu.peer s.pcu.last .h s.ptu.far.h, v := farSource s.pcu.peer s.pcu.last .v s.ptu.far.v }
  if far = s.ptu.far then s else (s.setPtu { s.ptu with far := far }).clearStable

/-! ## Predicted level and raw class (R23, R24) -/

/-- The predicted level of a seeded branch (R23). -/
def predict (p : Pfl) (far : PerPol FarSource) (b : Branch) : Predicted :=
  match p.link.path with
  | none => .absent .unreferenced
  | some f =>
    let level (power : Int) : Int :=
      clampInt (-1200) 0 (power - f.farTxLoss + f.farGain + (if Branch.isMain b then f.mainGain else f.divGain) -
        f.pathLoss - (p.branch b).rxLoss)
    match far.get (Branch.pol b) with
    | .off => .absent .cross
    | .reported power => .level (level power) false
    | .nominal => .level (level f.farPower) true

/-- The windows' bands of R24. -/
def bandOf (w : WindowValues) (d : Int) : LobeClass :=
  if w.hi < d then .above
  else if -w.main ≤ d then .main
  else if -w.edge ≤ d then .skirt
  else if -w.side ≤ d then .side
  else .offPath

/-- The raw class of a sample (R24). -/
def rawClass (w : WindowValues) (pred : Predicted) (smoothed : Int) (below : Bool) : LobeClass :=
  match pred with
  | .absent .unreferenced => .unreferenced
  | .absent .cross => .cross
  | .absent .none => .none
  | .level p _ => if below then .noSignal else bandOf w (smoothed - p)

def Predicted.value : Predicted → Option Int
  | .absent _ => none
  | .level v _ => some v

def Predicted.isNominal : Predicted → Bool
  | .absent _ => false
  | .level _ n => n

/-- Whether a class is taken at once, without dwell (R27). -/
def LobeClass.atOnce : LobeClass → Bool
  | .unreferenced | .cross => true
  | _ => false

/-- The class, candidate and stable count after a sample of a raw class (R26 to R28). -/
def settleClass (r : PointRec) (raw : LobeClass) (seeding : Bool) (dwell : Nat) : PointRec :=
  if seeding then { r with cls := raw, cand := none, stable := 1 }
  else if raw = r.cls then { r with cand := none, stable := satSucc 65535 r.stable }
  else if raw.atOnce then { r with cls := raw, cand := none, stable := 1 }
  else
    let n := match r.cand with
      | some (c, k) => if c = raw then satSucc 255 k else 1
      | none => 1
    if dwell ≤ n then { r with cls := raw, cand := none, stable := n }
    else { r with cand := some (raw, n), stable := 0 }

/-! ## Held peak (R29, R30) -/

/-- The held peak after a sample, and whether a PEAK_ADVANCE occurs. -/
def raisePeak (hysteresis : Int) (smoothed : Int) (uncal : Bool) : Option Peak → Option Peak × Bool
  | none => (some { held := smoothed, marker := smoothed, uncal := uncal }, false)
  | some k =>
    if k.held < smoothed then
      if k.marker + hysteresis ≤ smoothed then
        (some { held := smoothed, marker := smoothed, uncal := uncal }, true)
      else (some { k with held := smoothed, uncal := uncal }, false)
    else (some k, false)

/-- A branch's held peak and marker are emptied (R29). -/
def State.emptyPeak (s : State) (b : Branch) : State := s.setPoint b { s.point b with peak := none }

/-- At peak (R32). -/
def State.atPeak (s : State) (b : Branch) (tolerance : Nat) : Bool :=
  match (s.point b).peak, s.smoothed b with
  | some k, some x => (s.point b).cls == .main && decide (k.held - x ≤ (tolerance : Int))
  | _, _ => false

/-- The peak deviation: held peak minus the present predicted level (R32). -/
def PointRec.peakDeviation (r : PointRec) : Option Int :=
  match r.peak, r.pred with
  | some k, .level p _ => some (k.held - p)
  | _, _ => none

/-- FALSE_PEAK: the peak deviation lies in the SIDE band (R32). -/
def State.falsePeak (s : State) (b : Branch) : Bool :=
  match (s.point b).peakDeviation with
  | some d => decide (-s.pfl.windows.side ≤ d) && decide (d < -s.pfl.windows.edge)
  | none => false

/-! ## Alignment outputs (R36 to R39) -/

def LobeClass.cadence : LobeClass → Cadence
  | .main | .above | .unreferenced => .continuous
  | .skirt => .four
  | .side => .two
  | .offPath => .one
  | .noSignal | .none | .cross => .silent

/-- The deviation the outputs follow: against -600 for UNREFERENCED and CROSS, else the latest sample's (R37). -/
def outputDeviation (cls : LobeClass) (dev smoothed : Option Int) : Option Int :=
  match cls with
  | .unreferenced | .cross => smoothed.map (· + 600)
  | .none => none
  | _ => dev

/-- The alignment voltage in mV (R37). -/
def alignmentVoltage (cls : LobeClass) (dev smoothed : Option Int) : Nat :=
  match cls with
  | .none | .noSignal => 0
  | _ => match outputDeviation cls dev smoothed with
    | some d => (clampInt 0 4095 (2000 + 5 * d)).toNat
    | none => 0

/-- Recomputes the voltage and the tone from the pointing branch (R37 to R39); `restart` begins the cadence anew. A
tone without a deviation takes a free frequency (log 23). -/
def State.driveAlignment (s : State) (restart : Bool) : State :=
  let b := s.ptu.pointing
  let r := s.point b
  let cadence := r.cls.cadence
  let d := outputDeviation r.cls r.dev (s.smoothed b)
  let freq := match d with
    | some d => (clampInt 300 3000 (1000 + 2 * d)).toNat
    | none => clampNat 300 3000 (Config.silentToneHz s.draws)
  let s := if d.isNone then s.setDraws (s.draws + 1) else s
  s.setPtu { s.ptu with
    voltage := alignmentVoltage r.cls r.dev (s.smoothed b)
    freq := freq
    cadence := cadence
    cadencePhase := if restart || cadence ≠ s.ptu.cadence then 0 else s.ptu.cadencePhase
    burst := if cadence = .silent then none else s.ptu.burst }

/-- The pointing branch is set (R36); a change recomputes both outputs, restarts the cadence and stops a burst. -/
def State.pointAt (s : State) (b : Branch) : State :=
  if b = s.ptu.pointing then s
  else (s.setPtu { s.ptu with pointing := b, burst := none }).driveAlignment true

/-- A PEAK_ADVANCE of the pointing branch starts the double burst, unless the cadence is silent (R30, R39). -/
def State.startBurst (s : State) : State :=
  if s.ptu.cadence = .silent then s else s.setPtu { s.ptu with burst := some 50 }

/-- The current class of a branch has changed (R28): the PLE hears of it with the old and the new class, and for the
pointing branch a notice is posted. -/
def State.classChanged (s : State) (b : Branch) (old : LobeClass) : State :=
  let r := s.point b
  let s := s.report (.classChange b old r.cls)
  if b = s.ptu.pointing then
    s.post .classChange
      ([.u 1 (Branch.num b), .u 1 (LobeClass.num old), .u 1 (LobeClass.num r.cls)] ++ optS 2 r.dev)
  else s

/-- The PTU takes a sample of a seeded branch (R16, R23 to R30, R37, R38). -/
def State.pointSample (s : State) (b : Branch) (x : Seed) (seeding : Bool) : State :=
  let w := s.pfl.windows
  let old := s.point b
  let pred := predict s.pfl s.ptu.far b
  let dev := pred.value.map (x.smoothed - ·)
  let raw := rawClass w pred x.smoothed x.flags.belowRange
  let r := settleClass { old with pred := pred, dev := dev } raw seeding (s.pfl.branch b).dwell
  let peak := raisePeak w.hysteresis x.smoothed x.flags.uncal old.peak
  let s := s.setPoint b { r with peak := peak.1 }
  let s := if r.cls = old.cls then s else s.classChanged b old.cls
  if b = s.ptu.pointing then
    let s := s.driveAlignment false
    if peak.2 then
      (s.post .peakAdvance ([.u 1 (Branch.num b), .s 2 x.smoothed] ++ optS 2 dev)).startBurst
    else s
  else s

/-- The BLU reports a branch OFF (R4, R27 to R29). -/
def State.pointLoss (s : State) (b : Branch) : State :=
  let old := (s.point b).cls
  let s := s.setPoint b .powerOn
  let s := if old = .none then s else s.classChanged b old
  if b = s.ptu.pointing then s.driveAlignment false else s

/-! ## Derived figures (R33, R34) -/

/-- A figure as a reader takes it. -/
structure Figure where
  value   : Int
  atLeast : Bool := false
  nominal : Bool := false
  flags   : Flags
  time    : Nat
  deriving DecidableEq, Repr

/-- The later of two counter values, read around the wrap of the 32-bit counter. -/
def laterTime (now a b : Nat) : Nat :=
  if (now + 2 ^ 32 - a) % 2 ^ 32 ≤ (now + 2 ^ 32 - b) % 2 ^ 32 then a else b

/-- Whether the far end radiates what XPD of a polarization needs (R33). -/
def State.xpdSource (s : State) (p : Pol) : Bool :=
  match s.pcu.last with
  | some f =>
    s.pcu.peer == .paired && f.settle == .settled && f.state p == .cw && f.state (Pol.other p) == .off
  | none => false

/-- XPD of a polarization (R33). -/
def State.xpd (s : State) (p : Pol) : Option Figure :=
  match s.seed (Pol.main p), s.seed (Pol.main (Pol.other p)) with
  | some w, some u =>
    if s.xpdSource p && !w.flags.belowRange then
      some { value := w.smoothed - u.smoothed, atLeast := u.flags.belowRange,
             flags := { (w.flags.union u.flags) with belowRange := false },
             time := laterTime s.clock.ms w.time u.time }
    else none
  | _, _ => none

/-- The diversity difference of a polarization (R34). -/
def State.divDiff (s : State) (p : Pol) : Option Figure :=
  match s.seed (Pol.main p), s.seed (Pol.div p) with
  | some m, some d =>
    some { value := m.smoothed - d.smoothed, flags := m.flags.union d.flags,
           time := laterTime s.clock.ms m.time d.time }
  | _, _ => none

/-- The fade margin of a branch (R34). -/
def State.fadeMargin (s : State) (b : Branch) : Option Figure :=
  match s.seed b, (s.pfl.branch b).threshold with
  | some x, some t => some { value := x.smoothed - t, flags := x.flags, time := x.time }
  | _, _ => none

/-- The deviation of a branch with its sample's flags. -/
def State.deviation (s : State) (b : Branch) : Option Figure :=
  match s.seed b, (s.point b).dev with
  | some x, some d =>
    some { value := d, nominal := (s.point b).pred.isNominal, flags := x.flags, time := x.time }
  | _, _ => none

/-- The value of a quantity that R17 and R35 serve; absent for the others. -/
def State.figure (s : State) : Quantity → Option Figure
  | .rawCode b => (s.seed b).map fun x => { value := x.code, flags := x.flags, time := x.time }
  | .level b => (s.seed b).map fun x => { value := x.level, flags := x.flags, time := x.time }
  | .smoothed b false => (s.seed b).map fun x => { value := x.smoothed, flags := x.flags, time := x.time }
  | .smoothed b true => (s.seed b).map fun x => { value := Sys2Proof.Machine.fine x.acc, flags := x.flags, time := x.time }
  | .deviation b => s.deviation b
  | .fadeMargin b => s.fadeMargin b
  | .xpd p => s.xpd p
  | .divDiff p => s.divDiff p
  | .farSmoothed _ | .errInterval _ => none

end Sys2Proof.Machine
end

