-- ==== Sys2Proof/Machine/Transmit.lean ====
section
/-! DEFINITION. The Transmit Mode Arbiter (chapter 5). -/

namespace Sys2Proof.Machine

/-! ## The arbitration result (R85, R86) -/

/-- The pair of states a request mode names (R85). -/
def RequestMode.pair : RequestMode → TxState × TxState
  | .traffic => (.traffic, .traffic)
  | .cwBoth => (.cw, .cw)
  | .cwH => (.cw, .off)
  | .cwV => (.off, .cw)
  | .pattern => (.pattern, .pattern)
  | .off => (.off, .off)

/-- The winner and its mode: TRAFFIC for DEFAULT (R86). -/
def Tma.choice (t : Tma) : Winner × RequestMode :=
  match t.peerSlot, t.planSlot, t.instSlot with
  | some m, _, _ => (.peer, m)
  | none, some m, _ => (.plan, m)
  | none, none, some m => (.installer, m)
  | none, none, none => (.default, .traffic)

def Tma.winner (t : Tma) : Winner := t.choice.1

/-- The arbitration result: the winner's pair under the mute mask (R86). -/
def Tma.result (t : Tma) : TxState × TxState :=
  let p := t.choice.2.pair
  (if t.mute.h then .off else p.1, if t.mute.v then .off else p.2)

/-- Outputs for a pair of states: power-freeze is asserted while neither is TRAFFIC, with the commissioning power
(R85). -/
def outputsOf (p : TxState × TxState) (commPower : Int) : Driven :=
  { h := p.1, v := p.2, freeze := if p.1 = .traffic ∨ p.2 = .traffic then none else some commPower }

/-- The reported power (R94). -/
def State.reportedPower (s : State) : Int :=
  match s.tma.driven.freeze, s.tma.power with
  | none, some p => p
  | _, _ => s.pfl.link.commPower

/-! ## What the outside sees (R95) -/

def maskByte (m : PerPol Bool) : Nat := m.h.toNat + 2 * m.v.toNat

def maskOf (n : Nat) : PerPol Bool := { h := n.testBit 0, v := n.testBit 1 }

/-- The driven outputs as payload fields, with the freeze power where it is presented. -/
def Driven.fields (d : Driven) : List Field :=
  [.u 1 (TxState.num d.h), .u 1 (TxState.num d.v), yes d.freeze.isSome] ++ optS 2 d.freeze

/-- TX_STATE: effective states, power-freeze, settle state, winner, mask and change number. -/
def State.postTx (s : State) : State :=
  let t := s.tma
  s.post .txState
    [.u 1 (TxState.num t.driven.h), .u 1 (TxState.num t.driven.v), yes t.driven.freeze.isSome,
     .u 1 (SettleState.num t.settle), .u 1 (Winner.num t.winner), .u 1 (maskByte t.mute), .u 1 t.change]

def slotFields (m : Option RequestMode) : List Field := optU 1 (m.map RequestMode.num)

/-- The traffic power and its indication SET or UNSET (R84, R95), with 0 for a power that is UNSET (log 61). -/
def trafficFields (power : Option Int) : List Field := [.s 2 (power.getD 0), .u 1 (if power.isSome then 0 else 1)]

/-- TX_STATUS (R95). -/
def State.txFields (s : State) : List Field :=
  let t := s.tma
  slotFields t.peerSlot ++ slotFields t.planSlot ++ slotFields t.instSlot ++
    [.u 1 (Winner.num t.winner), .u 1 (TxState.num t.result.1), .u 1 (TxState.num t.result.2), .u 1 (maskByte t.mute)] ++
    t.driven.fields ++ [.u 1 t.change, .u 1 (SettleState.num t.settle)] ++
    optU 2 (if t.settle = .settling then t.timer else none) ++ trafficFields t.power ++ [.s 2 s.reportedPower]

/-- The response to TX_REQUEST and TX_RELEASE (R92). -/
def State.slotReply (s : State) : Reply :=
  { payload := slotFields s.tma.instSlot ++ [.u 1 (Winner.num s.tma.winner)] ++ s.tma.driven.fields ++
      [.u 1 (SettleState.num s.tma.settle)] }

/-! ## Driving (R86, R87) -/

/-- New outputs are driven (R87): the change number rises, SETTLING begins with its full limit, TX_STATE is posted and
the PLE and PTU are told, in no order that R87 gives (DESIGN CHOICE, log 79). -/
def State.driveOutputs (s : State) (d : Driven) : State :=
  let old := s.tma.driven
  let s := s.setTma { s.tma with
    driven := d, change := (s.tma.change + 1) % 256, settle := .settling, timer := some 2000 }
  let s := if d.h = old.h ∧ d.v = old.v then s else s.clearStable
  s.postTx.report .transmitter

/-- The result is formed anew (R86): outside FAULT, outputs that differ from the driven ones are driven. -/
def State.arbitrate (s : State) : State :=
  let d := outputsOf s.tma.result s.pfl.link.commPower
  if s.tma.settle = .fault ∨ d = s.tma.driven then s else s.driveOutputs d

/-- Slots are filled, replaced and emptied (R91, R92). -/
def State.setPeerSlot (s : State) (m : Option RequestMode) : State :=
  (s.setTma { s.tma with peerSlot := m }).arbitrate

def State.setPlanSlot (s : State) (m : Option RequestMode) : State :=
  (s.setTma { s.tma with planSlot := m }).arbitrate

def State.setInstSlot (s : State) (m : Option RequestMode) : State :=
  (s.setTma { s.tma with instSlot := m }).arbitrate

/-- SET_MUTE's effect (R93): a changed mask is arbitrated, posted (R95) and reported to the PLE. -/
def State.setMask (s : State) (m : PerPol Bool) : State :=
  if m = s.tma.mute then s
  else (s.setTma { s.tma with mute := m }).arbitrate.postTx.report .maskChange

/-! ## Settling (R88 to R90) -/

/-- A settle report (R88). -/
def State.settled (s : State) (change : Nat) : State :=
  if s.tma.settle = .settling ∧ change = s.tma.change then
    (s.setTma { s.tma with settle := .settled, timer := none }).postTx.report .transmitter
  else s

/-- The settle timer's expiry (R89): FAULT, with OFF driven for both polarizations. -/
def State.txFault (s : State) : State :=
  let t := s.tma
  let radiated : Bool := !(t.driven.h == .off && t.driven.v == .off)
  let s := s.setTma { t with
    settle := .fault, timer := none,
    driven := if radiated then outputsOf (.off, .off) s.pfl.link.commPower else t.driven,
    change := if radiated then (t.change + 1) % 256 else t.change }
  let s := if radiated then s.clearStable else s
  s.postTx.report .txFault

/-- CLEAR_TX_FAULT's effect (R90): the standing result is driven whether or not it differs. -/
def State.clearFault (s : State) : State := s.driveOutputs (outputsOf s.tma.result s.pfl.link.commPower)

/-! ## Profile and reset (R94, R96) -/

/-- The TMA takes a profile's commissioning power (R94), and starts its settle timer at the first profile (R96). -/
def State.txProfile (s : State) (first : Bool) : State :=
  let s := if first && s.tma.settle == .settling then s.setTma { s.tma with timer := some 2000 } else s
  s.arbitrate

/-- Part reset (R96): the slots are emptied, and the result is formed anew. -/
def State.txReset (s : State) : State :=
  (s.setTma { s.tma with peerSlot := none, planSlot := none, instSlot := none }).arbitrate

end Sys2Proof.Machine
end

