-- ==== Sys2Proof/Machine/Peer.lean ====
section
/-! DEFINITION. The Peer Coordination Unit (chapter 6) and the peer frame's bytes (R184). -/

namespace Sys2Proof.Machine

/-! ## The peer frame (R99, R184) -/

/-- A level with its flags, bit 7 of the flag byte standing for its presence. -/
def levelBytes : Option (Int × Flags) → List Byte
  | some (v, f) => intBytes 2 v ++ natBytes 1 (128 + f.byte)
  | none => natBytes 3 0

/-- Bytes 0 to 45 of a frame. -/
def PeerFrame.body (f : PeerFrame) : List Byte :=
  natBytes 1 0xC6 ++ natBytes 1 f.phase.toNat ++ natBytes 2 f.linkId ++ natBytes 1 (EndLetter.byte f.letter) ++
    natBytes 1 (TxState.num f.h) ++ natBytes 1 (TxState.num f.v) ++ natBytes 1 (SettleState.num f.settle) ++
    natBytes 1 (maskByte f.mute) ++ intBytes 2 f.power ++
    levelBytes f.levels.mh ++ levelBytes f.levels.mv ++ levelBytes f.levels.dh ++ levelBytes f.levels.dv ++
    natBytes 1 (match f.req with | some m => RequestMode.num m + 1 | none => 0) ++ natBytes 1 f.grant.toNat ++
    natBytes 1 (Indication.num f.ind) ++ natBytes 2 f.digest.toNat ++ natBytes 1 f.echo.isSome.toNat ++
    natBytes 2 (f.echo.getD 0).toNat ++ natBytes 15 0

/-- The 48 bytes handed to the modem: the body and its check (R184, R186). -/
def PeerFrame.bytes (f : PeerFrame) : List Byte := f.body ++ natBytes 2 (crc f.body).toNat

/-- The number in byte i, and in bytes i and i + 1. -/
def byteAt (bs : List Byte) (i : Nat) : Nat := (bs.getD i 0).toNat
def wordAt (bs : List Byte) (i : Nat) : Nat := byteAt bs i * 256 + byteAt bs (i + 1)
def intAt (bs : List Byte) (i : Nat) : Int := toSigned 2 (wordAt bs i)

def bitOf : Nat → Option Bool
  | 0 => some false
  | 1 => some true
  | _ => none

/-- A branch's three bytes (R183, R184, log 28). -/
def levelOf (bs : List Byte) (i : Nat) : Option (Option (Int × Flags)) :=
  let v := intAt bs i
  let fl := byteAt bs (i + 2)
  if fl.testBit 6 then none
  else if fl.testBit 7 then if -1200 ≤ v ∧ v ≤ 0 then some (some (v, Flags.ofByte fl)) else none
  else if v = 0 then some none else none

def requestOf : Nat → Option (Option RequestMode)
  | 0 => some none
  | n + 1 => (RequestMode.ofNum n).map some

/-- The fields of a frame, where every byte holds a value R184 gives a meaning. -/
def PeerFrame.fieldsOf (bs : List Byte) : Option PeerFrame := do
  let phase ← bitOf (byteAt bs 1)
  let letter ← EndLetter.ofByte (byteAt bs 4)
  let h ← TxState.ofNum (byteAt bs 5)
  let v ← TxState.ofNum (byteAt bs 6)
  let settle ← SettleState.ofNum (byteAt bs 7)
  let mute ← if byteAt bs 8 < 4 then some (maskOf (byteAt bs 8)) else none
  let mh ← levelOf bs 11
  let mv ← levelOf bs 14
  let dh ← levelOf bs 17
  let dv ← levelOf bs 20
  let req ← requestOf (byteAt bs 23)
  let grant ← bitOf (byteAt bs 24)
  let ind ← Indication.ofNum (byteAt bs 25)
  let digest ← if ind = .none ∧ wordAt bs 26 ≠ 0 then none else some (BitVec.ofNat 16 (wordAt bs 26))
  let echo ← match bitOf (byteAt bs 28) with
    | some true => some (some (BitVec.ofNat 16 (wordAt bs 29)))
    | some false => if wordAt bs 29 = 0 then some none else none
    | none => none
  some { phase := phase, linkId := wordAt bs 2, letter := letter, h := h, v := v, settle := settle, mute := mute,
         power := intAt bs 9, levels := { mh := mh, mv := mv, dh := dh, dv := dv }, req := req, grant := grant,
         ind := ind, digest := digest, echo := echo }

/-- A delivered frame judged (R100, R184): absent when it is invalid. -/
def PeerFrame.parse (bs : List Byte) : Option PeerFrame :=
  if bs.length = 48 ∧ byteAt bs 0 = 0xC6 ∧ wordAt bs 46 = (crc (bs.take 46)).toNat then PeerFrame.fieldsOf bs
  else none

/-! ## Composition (R98, R99) -/

def Acr.indication (a : Acr) : Indication :=
  match a.state with
  | .opened => .none
  | .closing => .ready
  | .closed => .closed

/-- REQUEST is carried while REQUESTING, or HOLDING and not released (R99). -/
def RequestSide.carried : RequestSide → Option RequestMode
  | .requesting _ m => some m
  | .holding _ m false _ _ => some m
  | _ => Option.none

/-- The frame of this moment, with a given phase (R99). -/
def State.frame (s : State) (phase : Bool) : PeerFrame :=
  { phase := phase, linkId := s.pfl.link.linkId, letter := s.pfl.link.letter, h := s.tma.driven.h, v := s.tma.driven.v,
    settle := s.tma.settle, mute := s.tma.mute, power := s.reportedPower, levels := s.pcu.out,
    req := s.pcu.req.carried, grant := s.pcu.grant.isSome, ind := s.acr.indication,
    digest := if s.acr.indication = .none then 0 else s.acr.localDigest.getD 0, echo := s.acr.echo }

/-- One composition (R98): the phase toggles, the frame is handed to the modem and the timer runs for 100 ms. -/
def State.compose (s : State) : State :=
  let phase := !s.pcu.phase
  s.setPcu { s.pcu with phase := phase, own := some (s.frame phase), compTimer := some 100 }

/-! ## Status and notices (R105, R116) -/

def Pcu.turn (p : Pcu) : TurnState :=
  match p.req, p.grant with
  | .none, none => .none
  | .none, some _ => .granted
  | .requesting _ _, _ => .requesting
  | .holding _ _ _ _ _, _ => .holding
  | .deferred _ _, none => .deferred
  | .deferred _ _, some _ => .deferredGranted

def RequestSide.requester : RequestSide → Option Party
  | .none => Option.none
  | .requesting w _ | .holding w _ _ _ _ | .deferred w _ => some w

def RequestSide.mode : RequestSide → Option RequestMode
  | .none => Option.none
  | .requesting _ m | .holding _ m _ _ _ | .deferred _ m => some m

def RequestSide.released : RequestSide → Option Bool
  | .holding _ _ r _ _ => some r
  | _ => Option.none

def RequestSide.farMatch : RequestSide → Option FarMatch
  | .holding _ _ _ m _ => some m
  | _ => Option.none

/-- A TURN_STATE notice and its report to the PLE (R105); `reason` belongs to a side just cleared, `ended` to a
request side. -/
def State.turnChanged (s : State) (reason : Option TurnReason) (ended : Option (Party × TurnReason)) : State :=
  let p := s.pcu
  (s.post .turnState
    ([.u 1 (TurnState.num p.turn), yes p.silent] ++ optU 1 (p.req.requester.map Party.num) ++
      optU 1 (p.req.mode.map RequestMode.num) ++ optU 1 (p.grant.map RequestMode.num) ++
      optU 1 (reason.map TurnReason.num))).report (.turnState ended)

/-- The number of an end letter in a payload (R178). -/
def EndLetter.num : EndLetter → Nat
  | .a => 0
  | .b => 1

/-- A branch's level and flags in a frame's fields (R116): bit 7 of the flags tells presence, as R183 has it, and no
presence byte of R178 stands before the level (DESIGN CHOICE, log 77). -/
def flaggedLevel : Option (Int × Flags) → List Field
  | some (v, f) => [.s 2 v, .u 1 (128 + f.byte)]
  | none => [.s 2 0, .u 1 0]

/-- A frame's fields in a payload, in the order of R184's bytes, GRANT as R184's 0 or 1 (R99, R116, log 49). The local
digest is R184's two bytes, 0 while the indication is none, without a presence byte of R178 (DESIGN CHOICE, log 83). -/
def PeerFrame.fields (f : PeerFrame) : List Field :=
  [.u 1 f.phase.toNat, .u 2 f.linkId, .u 1 (EndLetter.num f.letter), .u 1 (TxState.num f.h), .u 1 (TxState.num f.v),
    .u 1 (SettleState.num f.settle), .u 1 (maskByte f.mute), .s 2 f.power] ++
    flaggedLevel f.levels.mh ++ flaggedLevel f.levels.mv ++ flaggedLevel f.levels.dh ++ flaggedLevel f.levels.dv ++
    optU 1 (f.req.map RequestMode.num) ++
    [.u 1 f.grant.toNat, .u 1 (Indication.num f.ind), .u 2 f.digest.toNat] ++ optU 2 (f.echo.map BitVec.toNat)

/-- The size of a frame's fields in a payload. -/
def frameFieldsSize : Nat := 31

/-- A frame that may be absent: a presence byte, then its fields or zeros (R178). -/
def optFrame : Option PeerFrame → List Field
  | some f => .u 1 1 :: f.fields
  | none => [.u 1 0, .u frameFieldsSize 0]

/-- PEER_STATUS (R116). The time since the last taken frame is told in 4 bytes (log 50). -/
def State.peerFields (s : State) : List Field :=
  let p := s.pcu
  [.u 1 (PeerState.num p.peer)] ++ optU 1 (p.peer.reason.map MismatchReason.num) ++
    optU 4 (p.takenAt.map fun t => (s.clock.ms + 2 ^ 32 - t) % 2 ^ 32) ++ optFrame p.last ++ optFrame p.own ++
    [.u 1 (TurnState.num p.turn), yes p.silent] ++ optU 1 (p.req.requester.map Party.num) ++
    optU 1 (p.req.mode.map RequestMode.num) ++ optU 1 (p.req.released.map yesNo) ++
    optU 1 (p.grant.map RequestMode.num) ++ optU 1 (p.req.farMatch.map FarMatch.num) ++
    optU 2 (p.hold.map (· / 1000))

/-! ## The sides of a turn (R105) -/

/-- Whether a turn is held by this end: its own, or the peer's. -/
def Pcu.held (p : Pcu) : Bool :=
  p.grant.isSome || match p.req with | .holding _ _ _ _ _ => true | _ => false

/-- The silent flag and the hold timer last only while a turn is held. -/
def Pcu.settleSilence (p : Pcu) : Pcu := if p.held then p else { p with silent := false, hold := none }

/-- The request side becomes NONE for a reason. -/
def State.endRequest (s : State) (reason : TurnReason) : State :=
  match s.pcu.req.requester with
  | none => s
  | some who =>
    (s.setPcu (Pcu.settleSilence { s.pcu with req := .none })).turnChanged (some reason) (some (who, reason))

/-- A deferred request is raised again once the grant side is clear (R109). -/
def State.raiseDeferred (s : State) : State :=
  match s.pcu.req with
  | .deferred who m => (s.setPcu { s.pcu with req := .requesting who m }).turnChanged none none
  | _ => s

/-- The grant side is cleared for a reason, and the PEER slot emptied (R105, R91). -/
def State.endGrant (s : State) (reason : TurnReason) : State :=
  match s.pcu.grant with
  | none => s
  | some _ =>
    (((s.setPcu (Pcu.settleSilence { s.pcu with grant := none })).setPeerSlot none).turnChanged (some reason)
      none).raiseDeferred

/-- This end grants the peer's mode (R107). -/
def State.giveGrant (s : State) (m : RequestMode) : State :=
  ((s.setPcu { s.pcu with grant := some m }).setPeerSlot (some m)).turnChanged none none

/-- Far mode match of a frame against a requested mode (R115). -/
def farMatchOf (f : PeerFrame) (m : RequestMode) : FarMatch :=
  match f.settle with
  | .settling => .settling
  | .fault => .different
  | .settled => if (f.h, f.v) = m.pair then .matched else .different

/-- The far mode match is formed anew while HOLDING, at a frame taken while PAIRED, and reported when it changes
(R115). A match that was formed against an earlier requested mode is a new one (log 20). -/
def State.formMatch (s : State) (f : PeerFrame) : State :=
  match s.pcu.req with
  | .holding who m released old against =>
    let x := farMatchOf f m
    let s := s.setPcu { s.pcu with req := .holding who m released x m }
    if x = old ∧ m = against then s else s.report (.farMatch x)
  | _ => s

/-- The GRANT field of a frame taken while PAIRED (R106), with the far mode match (R115), which a released HOLDING turn
forms anew and reports too (DESIGN CHOICE, log 76). -/
def State.takeGrant (s : State) (f : PeerFrame) : State :=
  match s.pcu.req, f.grant with
  | .requesting who m, true =>
    let x := farMatchOf f m
    ((s.setPcu { s.pcu with req := .holding who m false x m }).turnChanged none none).report (.farMatch x)
  | .holding _ _ _ _ _, true => s.formMatch f
  | .holding _ _ false _ _, false => s.endRequest .grantWithdrawn
  | .holding _ _ true _ _, false => s.endRequest .released
  | .requesting _ _, false => s
  | .none, _ => s
  | .deferred _ _, _ => s

/-- The REQUEST field of a frame taken while PAIRED (R107, R108). -/
def State.takeRequest (s : State) (f : PeerFrame) : State :=
  match s.pcu.grant, f.req with
  | some g, some m =>
    if m = g then s
    else ((s.setPcu { s.pcu with grant := some m }).setPeerSlot (some m)).turnChanged none none
  | some _, none => s.endGrant .requestWithdrawn
  | none, none => s
  | none, some m =>
    match s.pcu.req with
    | .none => if s.acr.state = .opened then s.giveGrant m else s
    | .requesting who own =>
      if s.pfl.link.letter = .b ∧ s.acr.state = .opened then
        ((s.setPcu { s.pcu with req := .deferred who own }).turnChanged none none).giveGrant m
      else s
    | .holding _ _ _ _ _ => s
    | .deferred _ _ => s

/-- A silent turn that stands after a frame taken while PAIRED is no longer silent (R113). -/
def State.endSilence (s : State) : State :=
  if s.pcu.silent then (s.setPcu { s.pcu with silent := false, hold := none }).turnChanged none none else s

/-- A turn as the peer leaves PAIRED (R112). One that is silent already, since a profile's application and not a frame
made the peer PAIRED, starts its hold time again; its silent flag does not change, so R105 posts no notice (DESIGN
CHOICE, log 78). -/
def State.startSilence (s : State) : State :=
  let silent (s : State) : State :=
    let t := s.setPcu { s.pcu with silent := true, hold := some (1000 * s.pfl.timing.holdTime) }
    if s.pcu.silent then t else t.turnChanged none none
  match s.pcu.grant, s.pcu.req with
  | some _, _ => silent s
  | none, .holding _ _ false _ _ => silent s
  | none, .holding _ _ true _ _ => s.endRequest .released
  | none, _ => s

/-! ## Peer state (R102 to R104) -/

/-- The pairing check of a frame (R103). -/
def pairing (link : LinkValues) (f : PeerFrame) : PeerState :=
  if link.linkId = 0 ∨ f.linkId = 0 then .mismatch .unset
  else if link.linkId ≠ f.linkId then .mismatch .linkId
  else if link.letter = f.letter then .mismatch .sameEnd
  else .paired

/-- The peer state is MISMATCH both before and after: only the reason can differ. -/
def PeerState.sameMismatch : PeerState → PeerState → Bool
  | .mismatch _, .mismatch _ => true
  | _, _ => false

/-- The peer state moves (R103, R104): the notice, the PLE, the PTU, and a held turn on leaving PAIRED. A change of
reason within MISMATCH posts its notice alone: it is no change of peer state for the PLE (R103, R115, R154). -/
def State.setPeer (s : State) (new : PeerState) : State :=
  let old := s.pcu.peer
  if new = old then s
  else
    let s := s.setPcu { s.pcu with peer := new }
    let far : List Field := match s.pcu.last with
      | some f => [.u 2 f.linkId, .u 1 (EndLetter.num f.letter)]
      | none => [.u 2 0, .u 1 0]
    let s := s.post .peerState
      ([.u 1 (PeerState.num old), .u 1 (PeerState.num new)] ++ optU 1 (new.reason.map MismatchReason.num) ++ far)
    let s := if old.sameMismatch new then s else s.report (.peerState old new)
    let s := s.updateFarSources
    if old = .paired then s.startSilence else s

/-- The pairing check on the last taken frame as a profile is applied (R103): HEARD at the first, MISMATCH and PAIRED
after a LOAD_PROFILE; SOLO stays. -/
def State.checkPairing (s : State) : State :=
  match s.pcu.peer, s.pcu.last with
  | .solo, _ => s
  | _, some f => s.setPeer (pairing s.pfl.link f)
  | _, none => s

/-- The silence timer's expiry (R102). -/
def State.peerSilent (s : State) : State := (s.setPcu { s.pcu with silence := none }).setPeer .solo

/-- The hold timer's expiry (R114): both sides that are held end; a request that is not held stays. -/
def State.holdExpired (s : State) : State :=
  let s := s.setPcu { s.pcu with hold := none }
  match s.pcu.grant, s.pcu.req with
  | some _, _ => s.endGrant .holdExpired
  | none, .holding _ _ _ _ _ => s.endRequest .holdExpired
  | none, _ => s

/-- Steps 1 to 4 of taking a frame and its hand-on to the PTU (R101), which comes before the other blocks' (DESIGN
CHOICE, log 79). -/
def State.takeFrame (s : State) (f : PeerFrame) : State :=
  let s := s.setPcu { s.pcu with last := some f, takenAt := some s.clock.ms, silence := some 1000 }
  let s := if s.pcu.peer = .solo then s.setPeer .heard else s
  let s := if s.pfl.status = .reading then s else s.setPeer (pairing s.pfl.link f)
  let s := if s.pcu.peer = .paired then ((s.takeGrant f).takeRequest f).endSilence else s
  s.updateFarSources

/-- Whether a valid frame is taken: its phase differs from the last taken one's (R100). -/
def Pcu.fresh (p : Pcu) (f : PeerFrame) : Bool := (p.last.map PeerFrame.phase) != some f.phase

/-! ## Requests and releases (R110, R111) -/

/-- TURN_REQUEST's checks 3 to 7 for an issuing party. -/
def State.askTurn (s : State) (who : Party) (m : RequestMode) : State × Status :=
  let replace (req : RequestSide) : State × Status :=
    ((s.setPcu { s.pcu with req := req }).turnChanged none none, .ok)
  let owned : Bool := match s.pcu.req.requester with
    | some w => w != who
    | none => false
  if owned then (s, .owned)
  else match s.pcu.req with
    | .holding _ _ true _ _ => (s, .wrongState)
    | .holding w old false x against => if m = old then (s, .ok) else replace (.holding w m false x against)
    | .requesting w old => if m = old then (s, .ok) else replace (.requesting w m)
    | .deferred w old => if m = old then (s, .ok) else replace (.deferred w m)
    | .none =>
      if s.pcu.peer ≠ .paired then (s, .wrongState)
      else if s.pcu.grant.isSome then replace (.deferred who m)
      else replace (.requesting who m)

/-- A release that is taken (R111's table), where a request that ends at once ends for the given reason. -/
def State.letGo (s : State) (reason : TurnReason) : State :=
  match s.pcu.req with
  | .requesting _ _ | .deferred _ _ => s.endRequest reason
  | .holding who m false x against =>
    if s.pcu.silent then s.endRequest reason
    else (s.setPcu { s.pcu with req := .holding who m true x against }).turnChanged none none
  | .holding _ _ true _ _ => s
  | .none => s

/-- TURN_RELEASE's effect (R111): RELEASED. -/
def State.releaseTurn (s : State) : State := s.letGo .released

/-- Whether a party's release is refused as OWNED (R111, check 3). -/
def releaseOwned (requester : Party) (from_ : Port) : Bool :=
  match requester, from_ with
  | .plan, _ => true
  | .unit, .installer => true
  | _, _ => false

/-- A request of the given requester is released (R111): the PLE's release as a step concludes. -/
def State.releaseOf (s : State) (who : Party) : State :=
  if s.pcu.req.requester = some who then s.releaseTurn else s

/-- A teardown of a request of the given requester (R117): as a release, with R105's reason TORN_DOWN for a request that
ends at once (log 51). -/
def State.tearDownTurn (s : State) (who : Party) : State :=
  if s.pcu.req.requester = some who then s.letGo .tornDown else s

/-- The turn as the record becomes CLOSED (R117, log 51). -/
def State.closeTurn (s : State) : State := (s.letGo .tornDown).endGrant .tornDown

/-- Part reset (R118): the composition timer starts again at once. -/
def State.pcuReset (s : State) : State := s.setPcu (.powerOn (some 100))

end Sys2Proof.Machine
end

