-- ==== Sys2Proof/Machine/Channels.lean ====
section
/-! DEFINITION. The Channel Unit (chapter 3): the sample store, channels and export streams. -/

namespace Sys2Proof.Machine

def State.channel (s : State) (c : Fin 8) : Option ChanRec := s.chu.channels.get c

def State.setChannel (s : State) (c : Fin 8) (r : Option ChanRec) : State :=
  s.setChu { s.chu with channels := s.chu.channels.set c r }

/-! ## The sample store (R46) -/

/-- The length of a channel's region. -/
def ChanRec.length (r : ChanRec) : Nat := r.pageCount * r.pageSize

/-- The regions in use, each with its first entry and its length; `skip` leaves one channel out (R48). -/
def Chu.regions (c : Chu) (skip : Option (Fin 8)) : List (Nat × Nat) :=
  allChannels.filterMap fun i => if skip = some i then none else (c.channels.get i).map fun r => (r.first, r.length)

/-- Whether the entries from `p` on lie within the store and belong to no region. -/
def fitsAt (regions : List (Nat × Nat)) (len p : Nat) : Bool :=
  decide (p + len ≤ 2048) && regions.all fun r => decide (p + len ≤ r.1) || decide (r.1 + r.2 ≤ p)

/-- The entries at which a free run can begin: 0 and the end of each region. -/
def runStarts (regions : List (Nat × Nat)) : List Nat := 0 :: regions.map fun r => r.1 + r.2

def leastOf : List Nat → Option Nat
  | [] => none
  | a :: rest => match leastOf rest with
    | none => some a
    | some b => some (min a b)

/-- First fit: the first entry of the lowest-numbered free run that is long enough (R46). -/
def firstFit (regions : List (Nat × Nat)) (len : Nat) : Option Nat :=
  leastOf ((runStarts regions).filter (fitsAt regions len))

/-- The length of the free run that begins at `p`, where `p` is free. -/
def runAt (regions : List (Nat × Nat)) (p : Nat) : Nat :=
  if fitsAt regions 1 p then
    (regions.foldl (fun e r => if p ≤ r.1 then min e r.1 else e) 2048) - p
  else 0

/-- The length of the store's largest free run (R63). -/
def largestRun (regions : List (Nat × Nat)) : Nat := (runStarts regions).foldl (fun m p => max m (runAt regions p)) 0

/-! ## Values (R44, R45) -/

/-- A figure as a channel stores it: BELOW_RANGE in place of AT_LEAST on an XPD (R44). -/
def Figure.sample (f : Figure) : Sample :=
  { value := f.value, flags := { f.flags with belowRange := f.flags.belowRange || f.atLeast } }

/-- The value a channel's timer expiry finds (R44, R45); absent where R45 says so. -/
def State.sampleOf (s : State) (q : Quantity) : Option Sample :=
  match q with
  | .farSmoothed b =>
    if s.pcu.peer = .paired then
      match s.pcu.last with
      | some f => (f.levels.get b).map fun x => { value := x.1, flags := x.2 }
      | none => none
    else none
  | .errInterval _ => none
  | q => (s.figure q).map Figure.sample

/-- An ERR_INTERVAL entry: the class in the two highest bits, the errored-block count below (R44, R185, log 31). -/
def errSample (c : IntervalClass) (errored : Nat) : Sample :=
  { value := (16384 * IntervalClass.num c + min 16383 errored : Nat), flags := {} }

/-- Whether a branch is OFF. -/
def State.isOff (s : State) (b : Branch) : Bool := !(s.branch b).active

/-- Whether a source is formed from a branch that is OFF (R49, R55). -/
def State.sourceOff (s : State) (q : Quantity) : Bool := q.formedFrom.any s.isOff

/-- Whether a source passes R44's check against the active profile. -/
def State.sourceFits (s : State) (q : Quantity) : Bool := q.formedFrom.all fun b => (s.branch b).fitted

/-! ## Pages (R50 to R53) -/

/-- A page that is not FILLING any more. -/
def Page.close (hdr : PageHeader) (entries : List Sample) (short endRun : Bool) : Page :=
  .ready { hdr with short := short, endRun := endRun } entries

/-- The FILLING page, with its place in the ring. -/
def ChanRec.filling (r : ChanRec) : Option (Nat × PageHeader × List Sample) :=
  match r.fill with
  | none => none
  | some i => match r.pages[i]? with
    | some (.filling hdr es) => some (i, hdr, es)
    | _ => none

/-- The place of the next page in ring order after the fill position (R50). -/
def ChanRec.nextPage (r : ChanRec) : Nat :=
  match r.fill with
  | none => 0
  | some i => if i + 1 < r.pageCount then i + 1 else 0

def addSat (n : Nat) : Nat := satSucc 65535 n

/-- A miss: an absent value (R52), or no page under LOSE (R51). -/
def ChanRec.miss (r : ChanRec) : ChanRec := { r with missed := addSat r.missed, gap := addSat r.gap }

/-- A sample appended to the page at a place of the ring, with what follows from it (R50, R53). -/
def ChanRec.append (r : ChanRec) (i : Nat) (hdr : PageHeader) (entries : List Sample) (x : Sample) : ChanRec :=
  let es := entries ++ [x]
  let short := decide (es.length < r.pageSize)
  let r := { r with stored := (r.stored + 1) % 2 ^ 32, remaining := r.remaining.map (· - 1), fill := some i }
  if r.remaining = some 0 then
    { r with pages := r.pages.set i (Page.close hdr es short true), state := .done, timer := none }
  else if short then { r with pages := r.pages.set i (.filling hdr es) }
  else { r with pages := r.pages.set i (Page.close hdr es false false) }

/-- A page begins with a sample (R50, case 2). -/
def ChanRec.openPage (r : ChanRec) (i : Nat) (now : Nat) (x : Sample) : ChanRec :=
  let hdr : PageHeader := { seq := r.stored, time := now, gap := r.gap, short := false, endRun := false }
  ChanRec.append { r with gap := 0 } i hdr [] x

/-- A value is placed at an expiry (R50, R51). -/
def ChanRec.place (r : ChanRec) (now : Nat) (x : Sample) : ChanRec :=
  match r.filling with
  | some (i, hdr, es) => r.append i hdr es x
  | none =>
    match r.pages[r.nextPage]? with
    | some .free => r.openPage r.nextPage now x
    | _ => match r.policy with
      | .lose => r.miss
      | .overwrite => ChanRec.openPage { r with dropped := addSat r.dropped } r.nextPage now x

/-- An absent value at an expiry closes a FILLING page as SHORT (R52). -/
def ChanRec.skip (r : ChanRec) : ChanRec :=
  match r.filling with
  | some (i, hdr, es) => ChanRec.miss { r with pages := r.pages.set i (Page.close hdr es true false) }
  | none => r.miss

/-- An interval expiry of a RUNNING channel (R50). -/
def ChanRec.expire (r : ChanRec) (now : Nat) : Option Sample → ChanRec
  | some x => r.place now x
  | none => r.skip

/-! ## Notices (R64) -/

/-- CHANNEL_STATE (R64). Remaining and the stored count stand behind a presence byte each, for a channel that becomes FREE
has neither (DEDUCED, log 93). -/
def State.postChannel (s : State) (c : Fin 8) (owner : Option Party) (old new : Option ChanState)
    (cause : Option StateCause) (r : Option ChanRec) : State :=
  s.post .channelState
    ([.u 1 c.val, .u 1 (ownerNum owner), .u 1 (chanStateNum old), .u 1 (chanStateNum new)] ++
      optU 1 (cause.map StateCause.num) ++
      (match r with
        | some r => [.u 1 1, budgetField r.remaining, .u 1 1, .u 4 r.stored]
        | none => [.u 1 0, .u 3 0, .u 1 0, .u 4 0]))

/-- A channel's record is replaced, and its change of state posted. -/
def State.moveChannel (s : State) (c : Fin 8) (new : Option ChanRec) (cause : Option StateCause) : State :=
  let old := s.channel c
  let s := s.setChannel c new
  if old.map ChanRec.state = new.map ChanRec.state then s
  else s.postChannel c (old.map ChanRec.owner) (old.map ChanRec.state) (new.map ChanRec.state) cause new

/-- A RUNNING channel takes a value or a miss, and posts DONE when the run ends (R50 to R53). -/
def State.channelSample (s : State) (c : Fin 8) (r : ChanRec) (x : Option Sample) : State :=
  s.moveChannel c (some (r.expire s.clock.ms x)) none

/-- A channel's interval timer expires: the timer restarts, and the channel samples (R50). -/
def State.channelExpiry (s : State) (c : Fin 8) : State :=
  match s.channel c with
  | some r =>
    if r.state = .running ∧ r.timer.isSome then
      s.channelSample c { r with timer := some r.interval } (s.sampleOf r.quantity)
    else s
  | none => s

/-- RUNNING ERR_INTERVAL channels of a polarization take a classification (R45), from channel 0 to channel 7, which
orders their DONE notices (DESIGN CHOICE, log 74). -/
def State.channelClassify (s : State) (p : Pol) (k : IntervalClass) (errored : Nat) : State :=
  allChannels.foldl (fun s c =>
    match s.channel c with
    | some r =>
      if r.state = .running ∧ r.quantity = .errInterval p then s.channelSample c r (some (errSample k errored)) else s
    | none => s) s

/-! ## Binding (R47, R48) -/

/-- The arguments of a BIND once checked. -/
structure Shape where
  quantity  : Quantity
  interval  : Nat
  budget    : Option Nat
  pageSize  : Nat
  pageCount : Nat
  policy    : Policy
  hold      : Bool
  deriving DecidableEq, Repr

/-- The record a BIND leaves (R47). -/
def Shape.record (x : Shape) (owner : Party) (first : Nat) : ChanRec :=
  { owner := owner, state := .bound, quantity := x.quantity, interval := x.interval, budget := x.budget,
    remaining := x.budget, stored := 0, missed := 0, dropped := 0, gap := 0, pageSize := x.pageSize,
    pageCount := x.pageCount, policy := x.policy, hold := x.hold, first := first,
    pages := List.replicate x.pageCount .free, fill := none, timer := none, stream := none }

/-- A BIND of a FREE channel (R47, step 4 on). -/
def State.bindChannel (s : State) (c : Fin 8) (owner : Party) (x : Shape) : Option (State × Nat) :=
  (firstFit (s.chu.regions none) (x.pageCount * x.pageSize)).map fun first =>
    let s := s.setChannel c (some (x.record owner first))
    (s.postChannel c none none (some .bound) none (s.channel c), first)

/-- A channel is freed, by UNBIND (cause COMMAND) or a teardown (cause OWNER_LOST) (R57). -/
def State.freeChannel (s : State) (c : Fin 8) (cause : StateCause) : State := s.moveChannel c none (some cause)

/-- Every channel of an owner is torn down (R57), in the order 0 to 7 (DESIGN CHOICE, log 64). -/
def State.tearDown (s : State) (owner : Party) : State :=
  allChannels.foldl (fun s c => if (s.channel c).map ChanRec.owner = some owner then s.freeChannel c .ownerLost else s) s

/-- A bind as R47 takes it, for a channel that is FREE by now. -/
def State.bindFor (s : State) (c : Fin 8) (owner : Party) (x : Shape) : State × Status :=
  match s.bindChannel c owner x with
  | some r => (r.1, .ok)
  | none => (s, .noSpace)

/-- The Plan Engine's BIND (R48): a port's channel is torn down only where the region would fit without it. -/
def State.planBind (s : State) (c : Fin 8) (x : Shape) : State × Status :=
  if !s.sourceFits x.quantity then (s, .badArgument)
  else match (s.channel c).map ChanRec.owner with
    | none => s.bindFor c .plan x
    | some .plan => (s.freeChannel c .command).bindFor c .plan x
    | some _ =>
      if (firstFit (s.chu.regions (some c)) (x.pageCount * x.pageSize)).isNone then (s, .noSpace)
      else (s.freeChannel c .ownerLost).bindFor c .plan x

/-! ## Running (R49, R54 to R57) -/

/-- The counts at the start of a run (R49, R56). -/
def ChanRec.fresh (r : ChanRec) : ChanRec :=
  { r with remaining := r.budget, stored := 0, missed := 0, dropped := 0, gap := 0, fill := none }

/-- The interval timer as a channel begins or resumes sampling (R45). -/
def ChanRec.startTimer (r : ChanRec) : Timer := if r.quantity.isErrInterval then none else some r.interval

/-- RUN (R49). -/
def State.runChannel (s : State) (c : Fin 8) (r : ChanRec) : State × Status :=
  if r.state ≠ .bound ∨ s.sourceOff r.quantity then (s, .wrongState)
  else
    let r := r.fresh
    if r.budget = some 0 then
      let hdr : PageHeader := { seq := 0, time := s.clock.ms, gap := 0, short := true, endRun := true }
      let s := s.moveChannel c (some { r with state := .running }) none
      (s.moveChannel c (some { r with state := .done, pages := r.pages.set 0 (.ready hdr []) }) none, .ok)
    else (s.moveChannel c (some { r with state := .running, timer := r.startTimer }) none, .ok)

/-- A RUNNING channel halts for a cause (R54). -/
def State.haltChannel (s : State) (c : Fin 8) (cause : HaltCause) : State × Status :=
  match s.channel c with
  | some r =>
    if r.state = .running then
      (s.moveChannel c (some { r with state := .halted cause, timer := none }) (some cause.toState), .ok)
    else (s, .wrongState)
  | none => (s, .wrongState)

def ChanState.isHalted : ChanState → Bool
  | .halted _ => true
  | _ => false

/-- RESUME (R55). -/
def State.resumeChannel (s : State) (c : Fin 8) (r : ChanRec) : State × Status :=
  if !r.state.isHalted || s.sourceOff r.quantity then (s, .wrongState)
  else (s.moveChannel c (some { r with state := .running, timer := r.startTimer }) none, .ok)

/-- FLUSH (R56). -/
def State.flushChannel (s : State) (c : Fin 8) (r : ChanRec) : State :=
  s.moveChannel c
    (some { r.fresh with pages := List.replicate r.pageCount .free, timer := none, state := .bound }) none

/-- The BLU reports a branch OFF (R4): the RUNNING channels formed from it halt (R54), in the order 0 to 7 (DESIGN
CHOICE, log 64). -/
def State.channelsLose (s : State) (b : Branch) : State :=
  allChannels.foldl (fun s c =>
    match s.channel c with
    | some r => if b ∈ r.quantity.formedFrom then (s.haltChannel c .sourceLost).1 else s
    | none => s) s

/-! ## Export streams (R59 to R62) -/

def State.stream (s : State) (p : Port) : Option StreamRec := s.chu.streams.get p

def State.setStream (s : State) (p : Port) (x : Option StreamRec) : State :=
  s.setChu { s.chu with streams := s.chu.streams.set p x }

/-- A channel's membership is set: a channel is a member of at most one stream (R60). -/
def State.setMember (s : State) (c : Fin 8) (p : Option Port) : State :=
  match s.channel c with
  | some r => s.setChannel c (some { r with stream := p })
  | none => s

/-- A stream is closed and its members removed (R59). -/
def State.closeStreamOf (s : State) (p : Port) : State :=
  let drop (x : Option ChanRec) : Option ChanRec :=
    x.map fun r => if r.stream = some p then { r with stream := none } else r
  s.setChu { s.chu with channels := s.chu.channels.map drop, streams := s.chu.streams.set p none }

def Page.isReady : Page → Bool
  | .ready _ _ => true
  | _ => false

def Page.isFree : Page → Bool
  | .free => true
  | _ => false

def ChanRec.hasReady (r : ChanRec) : Bool := r.pages.any Page.isReady

/-- The place of the oldest READY page (R61). -/
def ChanRec.oldestReady (r : ChanRec) : Option Nat :=
  let start := r.nextPage
  let order := (List.range r.pageCount).map fun k => (start + k) % r.pageCount
  order.find? fun i => (r.pages[i]?.map Page.isReady).getD false

/-- Whether a channel is a member of a stream with a READY page. -/
def State.offers (s : State) (p : Port) (c : Fin 8) : Bool :=
  match s.channel c with
  | some r => r.stream == some p && r.hasReady
  | none => false

/-- The channel numbers in the order of the arbiter's search (R61, case 2). -/
def searchOrder : Option (Fin 8) → List (Fin 8)
  | none => allChannels
  | some c => allChannels.map fun k => c + 1 + k

/-- The arbiter's choice, with the current channel and run count it leaves (R61). -/
def State.chooseChannel (s : State) (p : Port) (x : StreamRec) : Option (Fin 8 × StreamRec) :=
  match x.current.filter fun c => s.offers p c && decide (x.run < x.quantum) with
  | some c => some (c, { x with run := x.run + 1 })
  | none => ((searchOrder x.current).find? (s.offers p)).map fun c => (c, { x with current := some c, run := 1 })

/-- A segment's payload (R185). -/
def segmentFields (c : Fin 8) (r : ChanRec) (hdr : PageHeader) (es : List Sample) : List Field :=
  [.u 1 c.val, .u 1 (hdr.short.toNat + 2 * hdr.endRun.toNat), .u 4 hdr.seq, .u 4 hdr.time, .u 2 hdr.gap,
    .u 1 es.length, .u 1 (Scale.num r.quantity.scale)] ++
    es.flatMap fun e => [.s 2 e.value, .u 1 (128 + e.flags.byte)]

/-- A delivered page becomes FREE; a DONE channel without hold-on-done becomes BOUND with its last one (R58, R62). -/
def ChanRec.delivered (r : ChanRec) (i : Nat) : ChanRec :=
  let r := { r with pages := r.pages.set i .free }
  if r.state = .done ∧ !r.hold ∧ !r.hasReady then
    { r with state := .bound, pages := List.replicate r.pageCount .free }
  else r

/-- NEXT_SEGMENT on an open stream (R61, R62). -/
def State.segment (s : State) (p : Port) (x : StreamRec) : State × Reply :=
  match s.chooseChannel p x with
  | none => refuse .empty s
  | some (c, x) =>
    match s.channel c with
    | none => refuse .empty s
    | some r =>
      match r.oldestReady with
      | none => refuse .empty s
      | some i =>
        match r.pages[i]? with
        | some (.ready hdr es) =>
          ((s.setStream p (some x)).moveChannel c (some (r.delivered i)) none, { payload := segmentFields c r hdr es })
        | _ => refuse .empty s

/-! ## Status (R63) -/

def ChanState.haltCause : ChanState → Option HaltCause
  | .halted c => some c
  | _ => none

/-- The record CHANNEL_STATUS returns, without the largest free run (R63, log 58); the source byte of a quantity whose
source is none is 0 (DESIGN CHOICE, log 56). -/
def channelFields : Option ChanRec → List Field
  | none => [.u 1 (chanStateNum none), .u 1 (ownerNum none)]
  | some r =>
    [.u 1 (ownerNum (some r.owner)), .u 1 (chanStateNum (some r.state))] ++
      optU 1 (r.state.haltCause.map HaltCause.num) ++
      [.u 1 r.quantity.num, .u 1 r.quantity.source, .u 1 (Scale.num r.quantity.scale), .u 2 r.interval,
        budgetField r.budget, budgetField r.remaining, .u 4 r.stored, .u 2 r.missed, .u 2 r.dropped, .u 2 r.gap,
        .u 1 r.pageSize, .u 1 r.pageCount, .u 1 (Policy.num r.policy), yes r.hold, .u 2 r.first,
        .u 1 (r.pages.filter Page.isFree).length,
        .u 1 (r.pages.filter fun p => !p.isFree && !p.isReady).length, .u 1 (r.pages.filter Page.isReady).length] ++
      optU 1 (r.filling.map fun x => x.2.2.length) ++ [.u 1 (streamNum r.stream)]

/-! ## The checks of R43 -/

/-- Whether a port's request on a channel of an owner is refused as OWNED (R43, check 4); `planToo` says the request
may name a channel of the plan. -/
def ownedFrom (p : Port) (owner : Party) (planToo : Bool) : Bool :=
  match p, owner with
  | _, .plan => !planToo
  | .installer, .unit => true
  | _, _ => false

/-- Checks 1 to 4 of R43 for a request that needs a channel that is not FREE. -/
def onChannel (f : ReqFrame) (n : Nat) (planToo : Bool) (act : Fin 8 → ChanRec → State → State × Reply) :
    State → State × Reply :=
  unlessClosed f fun s =>
    match channelOf n with
    | none => refuse .badArgument s
    | some c => match s.channel c with
      | none => refuse .wrongState s
      | some r => if ownedFrom f.port r.owner planToo then refuse .owned s else act c r s

/-- The status of an operation as a reply. -/
def asReply (r : State × Status) : State × Reply := (r.1, { status := r.2 })

end Sys2Proof.Machine
end

