-- ==== Sys2Proof/Machine/Testing.lean ====
section
/-! DEFINITION. The Error Test Unit (chapter 4). -/

namespace Sys2Proof.Machine

/-! ## The sequence (R67) -/

/-- The next bit: the sum modulo 2 of stages 15 and 14. -/
def nextBit (r : BitVec 15) : Bool := r.getLsbD 14 ^^ r.getLsbD 13

/-- A bit enters stage 1 and stage 15 leaves. -/
def shiftIn (r : BitVec 15) (b : Bool) : BitVec 15 := (r <<< 1) ||| BitVec.ofNat 15 b.toNat

/-- The next `n` bits of the sequence, the first sent in bit 0 of a number, and the register after them. -/
def emitFrom : Nat → BitVec 15 → Nat × BitVec 15
  | 0, r => (0, r)
  | n + 1, r =>
    let b := nextBit r
    let rest := emitFrom n (shiftIn r b)
    (b.toNat + 2 * rest.1, rest.2)

/-- The next test block, bit 0 the first sent, and the register where the block after it goes on (R67). -/
def emitBlock (r : BitVec 15) : BitVec 2048 × BitVec 15 :=
  let x := emitFrom 2048 r
  (BitVec.ofNat 2048 x.1, x.2)

/-- So many test blocks, oldest first: each continues the sequence where the one before it ended (R67). -/
def emitBlocks : Nat → BitVec 15 → List (BitVec 2048) × BitVec 15
  | 0, r => ([], r)
  | n + 1, r =>
    let x := emitBlock r
    let rest := emitBlocks n x.2
    (x.1 :: rest.1, rest.2)

/-- Bit errors of the `n` bits of a block from bit `i` on against the sequence, and the register after them. -/
def compareFrom (bits : BitVec 2048) : Nat → Nat → BitVec 15 → Nat × BitVec 15
  | 0, _, r => (0, r)
  | n + 1, i, r =>
    let b := nextBit r
    let rest := compareFrom bits n (i + 1) (shiftIn r b)
    (rest.1 + (bits.getLsbD i ^^ b).toNat, rest.2)

/-- A block's bit-error count and the register continued over it (R68). -/
def compareBlock (bits : BitVec 2048) (r : BitVec 15) : Nat × BitVec 15 := compareFrom bits 2048 0 r

/-- The register loaded from a block's last 15 bits: the last bit in stage 1 (R68). -/
def loadRegister (bits : BitVec 2048) : BitVec 15 :=
  (List.range 15).foldl (fun r k => shiftIn r (bits.getLsbD (2033 + k))) 0

/-! ## Records -/

def Etu.tested (e : Etu) (p : Pol) : Bool :=
  match e.test.setup with
  | some x => Pols.has x.pols p && e.test.state != .idle
  | none => false

def TestRec.active (t : TestRec) : Bool := t.state == .running || t.state == .paused

def State.count (s : State) (p : Pol) : CountRec := s.etu.counts.get p

def State.setCount (s : State) (p : Pol) (c : CountRec) : State :=
  s.setEtu { s.etu with counts := s.etu.counts.set p c }

def State.setTest (s : State) (t : TestRec) : State := s.setEtu { s.etu with test := t }

/-! ## The checker (R68 to R70) -/

/-- Counts a block in the current interval (R70). -/
def Interval.block (i : Interval) (errors : Nat) : Interval :=
  { i with blocks := i.blocks + 1, errored := i.errored + (if errors = 0 then 0 else 1), bitErrors := i.bitErrors + errors }

/-- A block taken by the checker; `counting` says the test is RUNNING and the polarization tested. -/
def CountRec.takeBlock (c : CountRec) (bits : BitVec 2048) (counting : Bool) : CountRec :=
  let r := compareBlock bits c.reg
  match c.sync with
  | .hunt =>
    if r.1 = 0 then
      if c.good = 1 then { c with sync := .sync, good := 0, bad := 0, reg := r.2 }
      else { c with good := c.good + 1, reg := r.2 }
    else { c with good := 0, reg := loadRegister bits }
  | .sync =>
    let c := if counting then { c with current := c.current.block r.1 } else c
    if 512 < r.1 then
      if c.bad = 3 then
        let c := { c with sync := .hunt, good := 0, bad := 0, reg := loadRegister bits }
        if counting then
          { c with current := { c.current with hunt := true },
                   totals := { c.totals with syncLosses := satSucc 65535 c.totals.syncLosses } }
        else c
      else { c with bad := c.bad + 1, reg := r.2 }
    else { c with bad := 0, reg := r.2 }

/-- A new interval begins (R71). -/
def CountRec.newInterval (c : CountRec) : CountRec := { c with current := .zero (c.sync == .hunt) }

def Etu.newIntervals (e : Etu) : Etu :=
  let fresh (p : Pol) : CountRec := if e.tested p then (e.counts.get p).newInterval else e.counts.get p
  { e with counts := { h := fresh .h, v := fresh .v } }

/-! ## Classification and outage (R72 to R76) -/

/-- The class of a closing interval (R72). -/
def Interval.classOf (i : Interval) (percent : Nat) : IntervalClass :=
  if i.blocks = 0 ∨ i.hunt ∨ i.blocks * percent ≤ i.errored * 100 then .severe
  else if 1 ≤ i.errored then .errored
  else .clean

/-- An interval added to the total of its own class. -/
def Totals.add (t : Totals) : IntervalClass → Totals
  | .clean => { t with clean := t.clean + 1 }
  | .errored => { t with errored := t.errored + 1 }
  | .severe => { t with severe := t.severe + 1 }

/-- The outage bookkeeping of a classified interval (R74, R75). -/
def CountRec.book (c : CountRec) (k : IntervalClass) : CountRec :=
  if c.outage then
    match k with
    | .severe =>
      { c with totals := { c.totals with outage := c.totals.outage + c.pend.length + 1 }, pend := [] }
    | _ =>
      if c.pend.length < 7 then { c with pend := c.pend ++ [k] }
      else { c with outage := false, totals := (c.pend ++ [k]).foldl Totals.add c.totals, pend := [] }
  else
    match k with
    | .severe =>
      if c.pend.length < 7 then { c with pend := c.pend ++ [k] }
      else
        { c with outage := true, totals := { c.totals with outage := c.totals.outage + c.pend.length + 1 }, pend := [] }
    | _ =>
      { c with totals := ({ c.totals with severe := c.totals.severe + c.pend.length }).add k, pend := [] }

/-- The pending run resolved as if broken (R76). -/
def CountRec.resolve (c : CountRec) : CountRec :=
  if c.outage then { c with totals := { c.totals with outage := c.totals.outage + c.pend.length }, pend := [] }
  else { c with totals := { c.totals with severe := c.totals.severe + c.pend.length }, pend := [] }

/-- The counts of a closed interval enter the totals, and the interval the bookkeeping (R73, steps 2 and 3). -/
def CountRec.closeInterval (c : CountRec) (k : IntervalClass) : CountRec :=
  CountRec.book
    { c with totals := { c.totals with bits := c.totals.bits + c.current.blocks * 2048,
                                       bitErrors := c.totals.bitErrors + c.current.bitErrors } } k

/-- The classification of one tested polarization (R73). -/
def State.classifyPol (s : State) (percent : Nat) (p : Pol) : State :=
  if s.etu.tested p then
    let k := (s.count p).current.classOf percent
    let s := s.channelClassify p k (s.count p).current.errored
    s.setCount p ((s.count p).closeInterval k)
  else s

/-! ## Notices and status (R80, R82) -/

def Totals.fields (t : Totals) : List Field :=
  [.u 4 t.clean, .u 4 t.errored, .u 4 t.severe, .u 4 t.outage, .u 8 t.bits, .u 8 t.bitErrors, .u 2 t.syncLosses]

/-- TEST_DONE (R80): the totals and outage state of each tested polarization stand as a list, with its count (R178). -/
def State.postTestDone (s : State) : State :=
  let t := s.etu.test
  let one (p : Pol) : List Field := (s.count p).totals.fields ++ [.u 1 (outageNum (s.count p).outage)]
  s.post .testDone
    ([.u 1 (ownerNum t.owner), .u 1 ((t.setup.map fun x => Pols.num x.pols).getD 0),
      .u 1 ((t.cause.map EndCause.num).getD 0), .u 4 t.completed] ++
      listOf (([Pol.h, Pol.v].filter s.etu.tested).map one))

def State.countFields (s : State) (p : Pol) : List Field :=
  let c := s.count p
  [yes (s.etu.tested p), .u 1 (Sync.num c.sync), .u 1 (outageNum c.outage)] ++ c.totals.fields ++
    listOf (c.pend.map fun k => [.u 1 (IntervalClass.num k)]) ++
    [.u 4 c.current.blocks, .u 4 c.current.errored, .u 8 c.current.bitErrors, yes c.current.hunt]

/-- TEST_STATUS (R82). -/
def State.testFields (s : State) : List Field :=
  let t := s.etu.test
  [.u 1 (TestState.num t.state), .u 1 (ownerNum t.owner)] ++ optU 1 (t.setup.map fun x => Pols.num x.pols) ++
    optU 4 (t.setup.map TestSetup.duration) ++ optU 1 (t.setup.map TestSetup.severe) ++ [.u 4 t.completed] ++
    optU 1 (t.cause.map EndCause.num) ++ s.countFields .h ++ s.countFields .v

/-! ## Starting, pausing and ending (R77 to R81) -/

/-- A polarization's record at START (R77): sync, runs and register stay; the first interval begins where tested. One
that is not tested begins none, so its hunt-seen is no whatever its sync (R66, R71; DEDUCED, log 75). -/
def CountRec.start (c : CountRec) (tested : Bool) : CountRec :=
  { c with current := .zero (tested && c.sync == .hunt), outage := false, pend := [], totals := .zero }

/-- The test is started (R77). -/
def State.beginTest (s : State) (owner : Party) (x : TestSetup) : State :=
  s.setEtu { s.etu with
    test := { state := .running, owner := some owner, setup := some x, completed := 0, cause := none,
              timer := some 1000 },
    counts := { h := (s.count .h).start (Pols.has x.pols .h), v := (s.count .v).start (Pols.has x.pols .v) } }

/-- The current interval is no more in progress: it has entered the totals, or is discarded (R79, R80, log 59). -/
def CountRec.noInterval (c : CountRec) : CountRec := { c with current := .zero false }

/-- The test ends with a cause (R80). -/
def State.endTest (s : State) (cause : EndCause) : State :=
  let done (p : Pol) : CountRec := if s.etu.tested p then (s.count p).resolve.noInterval else s.count p
  let s := s.setEtu { s.etu with
    test := { s.etu.test with state := .stopped, timer := none, cause := some cause },
    counts := { h := done .h, v := done .v } }
  let s := s.postTestDone
  if s.etu.test.owner = some .plan then s.report (.testEnd cause) else s

/-- The test ends if it is RUNNING or PAUSED. -/
def State.endActive (s : State) (cause : EndCause) : State := if s.etu.test.active then s.endTest cause else s

/-- The owner becomes NONE (R78, R81). -/
def State.releaseTest (s : State) : State := s.setTest { s.etu.test with owner := none }

/-- A teardown of the test of an owner (R81): it ends if it is RUNNING or PAUSED, and is released. -/
def State.dropTest (s : State) (owner : Party) (cause : EndCause) : State :=
  if s.etu.test.owner = some owner then (s.endActive cause).releaseTest else s

/-- The record becomes CLOSED (R81): any RUNNING or PAUSED test ends and is released. -/
def State.closeTest (s : State) : State := if s.etu.test.active then (s.endTest .closed).releaseTest else s

/-- The PLE starts its test (R78). -/
def State.planTest (s : State) (pols : Pols) (duration : Nat) : State :=
  let s := if s.etu.test.owner = some .plan then s.endActive .replaced else s.endActive .preempted
  s.beginTest .plan { pols := pols, duration := duration, severe := s.pfl.test.percent }

/-- The PLE releases its test (R78). -/
def State.planReleaseTest (s : State) : State :=
  if s.etu.test.owner = some .plan then (s.endActive .command).releaseTest else s

/-- The PLE pauses its test (R79): the interval in progress is discarded (log 59). -/
def State.pauseTest (s : State) : State :=
  let t := s.etu.test
  if t.owner = some .plan ∧ t.state = .running then
    let clear (p : Pol) : CountRec := if s.etu.tested p then (s.count p).noInterval else s.count p
    s.setEtu { s.etu with test := { t with state := .paused, timer := none },
                          counts := { h := clear .h, v := clear .v } }
  else s

/-- The PLE resumes its test (R79). -/
def State.resumeTest (s : State) : State :=
  let t := s.etu.test
  if t.owner = some .plan ∧ t.state = .paused then
    s.setEtu (Etu.newIntervals { s.etu with test := { t with state := .running, timer := some 1000 } })
  else s

/-- The interval timer's expiry (R73): H is classified and handed on before V (R71 gives no order; DESIGN CHOICE,
log 74). -/
def State.testExpiry (s : State) : State :=
  match s.etu.test.setup with
  | none => s
  | some x =>
    if s.etu.test.state = .running then
      let s := (s.classifyPol x.severe .h).classifyPol x.severe .v
      let s := s.setTest { s.etu.test with completed := s.etu.test.completed + 1 }
      let n := s.etu.test.completed
      let s := if s.etu.test.owner = some .plan then s.report (.testProgress n) else s
      if x.duration ≤ n then s.endTest .complete
      else s.setEtu (Etu.newIntervals { s.etu with test := { s.etu.test with timer := some 1000 } })
    else s

end Sys2Proof.Machine
end

