-- ==== Sys2Proof/Machine/Record.lean ====
section
/-! DEFINITION. The Acceptance Record (chapter 9): entries and their serialization, appending, verdicts, waivers. -/

namespace Sys2Proof.Machine

/-! ## Serialization (R185) -/

/-- An item's 8 bytes. -/
def Item.fields (i : Item) : List Field :=
  [.u 1 (ItemCode.num i.code), .u 1 (Place.num i.place), .s 4 i.value, .u 1 (Scale.num i.scale),
    .u 1 (i.atLeast.toNat + 2 * i.nominal.toNat + 4 * i.falsePeak.toNat + 8 * i.uncal.toNat)]

/-- An entry's 23 + 8 x n bytes. -/
def Entry.fields (e : Entry) : List Field :=
  [.u 2 e.seq, .u 1 (EntryKind.num e.kind), .u 1 ((e.step.map StepTag.index).getD 0xFF),
    .u 2 ((e.step.map StepTag.label).getD 0), .u 1 ((e.step.map StepTag.attempt).getD 0),
    .u 1 ((e.verdict.map Verdict.num).getD 0), .u 1 ((e.reason.map Reason.num).getD 0),
    .u 4 e.startTime.value, .u 4 e.endTime.value, .u 1 (e.startTime.unset.toNat + 2 * e.endTime.unset.toNat),
    .u 1 e.suspensions, .u 1 e.superseded.toNat, .u 2 (e.ref.getD 0), .u 1 e.items.length] ++
    e.items.flatMap Item.fields

/-- The digest: the CRC of the serialized entries in list order (R167). -/
def digestOf (es : List Entry) : Check := crc (es.flatMap fun e => payloadBytes e.fields)

/-! ## Appending (R161) -/

/-- Whether an append is storable. -/
def Acr.storable (a : Acr) : Bool := decide (a.entries.length < 96) && decide (a.next ≤ 65535)

/-- Whether a later result of a step index supersedes an entry. -/
def Entry.supersededBy (e new : Entry) : Bool :=
  e.kind == .stepResult && (new.kind == .stepResult || new.kind == .handover) &&
    (e.step.map StepTag.index) == (new.step.map StepTag.index)

/-- The list with an entry at its end, numbered, and the earlier results of its step superseded. -/
def Acr.append (a : Acr) (e : Entry) : Acr :=
  { a with
    entries := (a.entries.map fun x => if x.supersededBy e then { x with superseded := true } else x) ++
      [{ e with seq := a.next }],
    next := a.next + 1 }

/-- A storable append with its notice. -/
def State.append (s : State) (e : Entry) : State :=
  let s := s.setAcr (s.acr.append e)
  s.post .entryAppended
    ([.u 2 (s.acr.next - 1), .u 1 (EntryKind.code e.kind)] ++ optU 1 (e.step.map StepTag.index) ++
      optU 1 (e.verdict.map Verdict.code) ++ [.u 1 s.acr.entries.length])

/-- What becomes of a plan result. -/
inductive Disposition where
  | stored (seq : Nat) | pending | discarded
  deriving DecidableEq, Repr

/-- A plan result is stored, or held as the pending result (R161). -/
def State.record (s : State) (e : Entry) : State × Disposition :=
  if s.acr.storable then (s.append e, .stored s.acr.next)
  else (s.setAcr { s.acr with held := some e }, .pending)

/-- A result that is stored or else discarded (R125, R165). -/
def State.recordOrDrop (s : State) (e : Entry) : State × Disposition :=
  if s.acr.storable then (s.append e, .stored s.acr.next) else (s, .discarded)

/-- The pending result leaves the ACR: appended if storable, else discarded; the flag says it was discarded (R165). -/
def State.storeHeld (s : State) : State × Bool :=
  match s.acr.held with
  | none => (s, false)
  | some e =>
    let s := s.setAcr { s.acr with held := none }
    if s.acr.storable then (s.append e, false) else (s, true)

/-- An item that belongs to no branch. -/
def plainItem (code : ItemCode) (value : Int) (scale : Scale) : Item :=
  { code := code, place := .nowhere, value := value, scale := scale }

def digestItem (code : ItemCode) (c : Option Check) : Item := plainItem code ((c.getD 0).toNat : Int) .count

/-- An entry of a kind that belongs to no step (R160). -/
def State.plainEntry (s : State) (kind : EntryKind) (verdict : Option Verdict) (ref : Option Nat)
    (items : List Item) : Entry :=
  { seq := 0, kind := kind, step := none, verdict := verdict, reason := none, startTime := s.recTime,
    endTime := s.recTime, suspensions := 0, superseded := false, ref := ref, items := items }

/-! ## Governing verdicts (R162) -/

/-- Whether an entry is a result of a step index that still stands. -/
def Entry.governs (e : Entry) (index : Nat) : Bool :=
  (e.kind == .stepResult || e.kind == .handover) && !e.superseded && (e.step.map StepTag.index) == some index

/-- Whether an entry is a WAIVER of a sequence number. -/
def Entry.waives (seq : Nat) (e : Entry) : Bool := e.kind == .waiver && e.ref == some seq

/-- The newest result of a step index that still stands, with the entries later in the list. -/
def newestOf (index : Nat) : List Entry → Option (Entry × List Entry)
  | [] => none
  | e :: rest =>
    match newestOf index rest with
    | some x => some x
    | none => if e.governs index then some (e, rest) else none

/-- The governing verdict of a step index by R162's table; absent is open. -/
def Acr.governing (a : Acr) (index : Nat) : Option Verdict :=
  match newestOf index a.entries with
  | none => none
  | some (e, later) =>
    if e.kind = .handover then some .pass
    else if later.any (Entry.waives e.seq) then some .waived
    else e.verdict

/-- The plan indices below a bound whose governing verdict is neither PASS nor WAIVED (R167). -/
def Acr.openIndices (a : Acr) (bound : Nat) : List Nat :=
  (List.range bound).filter fun i => a.governing i != some .pass && a.governing i != some .waived

/-! ## Waivers and purging (R163, R164) -/

/-- Whether an entry may be waived (R163, check 4). -/
def Acr.waivable (a : Acr) (e : Entry) : Bool :=
  e.kind == .stepResult && !e.superseded && (e.verdict == some .fail || e.verdict == some .aborted) &&
    !(a.entries.any (Entry.waives e.seq))

/-- WAIVE's checks and effect (R163). -/
def State.waiveEntry (s : State) (seq : Nat) : State × Reply :=
  if seq = 0 then refuse .badArgument s
  else if s.acr.state ≠ .opened then refuse .wrongState s
  else match s.acr.entries.find? fun e => e.seq == seq with
    | none => refuse .notFound s
    | some e =>
      if !s.acr.waivable e then refuse .wrongState s
      else if !s.acr.storable then refuse .noSpace s
      else
        let n := s.acr.next
        (s.append (s.plainEntry .waiver (some .waived) (some seq) [plainItem .waivedSequence seq .count]),
          { payload := [.u 2 n] })

/-- Whether a purge removes an entry (R164). -/
def Acr.purges (a : Acr) (e : Entry) : Bool :=
  e.superseded || (e.kind == .waiver && a.entries.any fun x => x.superseded && e.ref == some x.seq)

/-- PURGE_SUPERSEDED's effect (R164). -/
def State.purge (s : State) : State × Reply :=
  let kept := s.acr.entries.filter fun e => !s.acr.purges e
  (s.setAcr { s.acr with entries := kept },
    { payload := [.u 1 (s.acr.entries.length - kept.length), .u 1 kept.length] })

/-! ## Record state (R167, R170, R173) -/

/-- The local digest is formed and the record becomes CLOSING (R167). -/
def State.formDigest (s : State) : State :=
  s.setAcr { s.acr with localDigest := some (digestOf s.acr.entries), state := .closing }

/-- A CLOSING record returns to OPEN with its local digest absent (R170). -/
def State.dropDigest (s : State) : State :=
  if s.acr.state = .closing then s.setAcr { s.acr with state := .opened, localDigest := none } else s

/-- Part reset and plan reset (R173); the flag says a pending result was discarded. -/
def State.acrReset (s : State) : State × Bool :=
  let s := s.dropDigest
  (s.setAcr { s.acr with held := none }, s.acr.held.isSome)

/-! ## Reading (R172) -/

/-- RECORD_STATUS. -/
def State.recordFields (s : State) : List Field :=
  let a := s.acr
  [.u 1 (RecordState.num a.state), .u 1 a.entries.length, .u 4 a.next] ++ optU 2 (a.localDigest.map BitVec.toNat) ++
    optU 2 (a.peerDigest.map BitVec.toNat) ++ optU 2 (a.echo.map BitVec.toNat) ++ [yes a.held.isSome] ++
    optU 1 ((a.held.bind Entry.step).map StepTag.index) ++ optU 1 ((a.held.bind Entry.step).map StepTag.attempt) ++
    optU 1 ((a.held.bind Entry.verdict).map Verdict.code) ++
    listOf ((List.range s.ple.length).map fun i => optU 1 ((a.governing i).map Verdict.code))

/-- As many of the members, from the first on, as fit in so many bytes. -/
def takeFitting (room : Nat) : List (List Field) → List (List Field)
  | [] => []
  | x :: rest => if payloadSize x ≤ room then x :: takeFitting (room - payloadSize x) rest else []

/-- READ_ENTRIES (R172): entries from a sequence number on, cut to a count and to the port's limit. -/
def State.readEntriesFrom (s : State) (p : Port) (first count : Nat) : State × Reply :=
  if first = 0 then refuse .badArgument s
  else
    let es := s.acr.entries.filter fun e => decide (first ≤ e.seq)
    if es.isEmpty then refuse .empty s
    else tell (listOf (takeFitting (Port.limit p - 1) ((es.take count).map Entry.fields))) s

end Sys2Proof.Machine
end

