-- ==== Sys2Proof/Machine/Steps.lean ====
section
/-! DEFINITION. Step entries (R120 to R122): what each kind takes, the checks of a loaded entry, clamping, and the
entry as a payload. -/

namespace Sys2Proof.Machine

/-! ## What a step asks for (R120) -/

/-- The far mode of a step in a half (R120). -/
def Step.farModeIn (x : Step) (half : Option Pol) : Option RequestMode :=
  match x.kind with
  | .xpd => match half with
    | some .h => some .cwH
    | some .v => some .cwV
    | none => none
  | .errtest => some .pattern
  | .align | .level | .diversity => x.farMode
  | .soak | .wait | .handover => none

/-- The local mode of a step (R120). -/
def Step.localMode (x : Step) : Option RequestMode :=
  match x.kind with
  | .soak => some .traffic
  | .errtest => x.locMode.map fun _ => .pattern
  | .align | .level | .xpd | .diversity => x.locMode
  | .wait | .handover => none

/-- The half an XPD step begins with (R127). -/
def Step.firstHalf (x : Step) : Option Pol :=
  match x.kind, x.pols with
  | .xpd, some .v => some .v
  | .xpd, _ => some .h
  | _, _ => none

/-- The branches whose loss reaches a step (R128, R144). -/
def Step.lossBranches (x : Step) : List Branch :=
  match x.kind with
  | .xpd => [.mh, .mv]
  | _ => x.branches

/-- The settle branches (R131). -/
def Step.settleBranches (x : Step) : List Branch :=
  match x.kind with
  | .align | .level | .diversity | .soak => x.branches
  | .xpd => [.mh, .mv]
  | .errtest | .wait | .handover => []

/-- The tested or covered polarizations of a step, H first. -/
def Step.testPols (x : Step) : List Pol := allPols.filter fun p => (x.pols.map fun q => Pols.has q p).getD false

/-- The polarizations a DIVERSITY step covers (R138). -/
def Step.covered (x : Step) : List Pol :=
  allPols.filter fun p => decide (Pol.main p ∈ x.branches) && decide (Pol.div p ∈ x.branches)

/-- Whether a mode radiates a polarization that a mask mutes (R128, R144). -/
def RequestMode.muted (m : RequestMode) (mask : PerPol Bool) : Bool :=
  (mask.h && m.pair.1 != .off) || (mask.v && m.pair.2 != .off)

/-- Whether a step's local mode radiates a muted polarization. -/
def Step.mutedBy (x : Step) (mask : PerPol Bool) : Bool :=
  match x.localMode with
  | some m => m.muted mask
  | none => false

/-! ## Limits (R121) -/

def Limits.absent : Limits :=
  { tolerance := none, windowBelow := none, windowAbove := none, minXpd := none, maxDiff := none, errored := none,
    severe := none, outage := none, minFade := none, maxBelow := none, maxEvents := none }

/-- The limits of an attempt: an absent member takes the active profile's default (R121). -/
def Limits.resolve (x : Limits) (p : Pfl) : Resolved :=
  let t := p.test
  { tolerance := x.tolerance.getD p.windows.tolerance, windowBelow := x.windowBelow.getD t.windowBelow,
    windowAbove := x.windowAbove.getD t.windowAbove, minXpd := x.minXpd.getD t.minXpd,
    maxDiff := x.maxDiff.getD t.maxDiff, errored := x.errored.getD t.errored, severe := x.severe.getD t.severe,
    outage := x.outage.getD t.outage, minFade := x.minFade.getD t.minFade, maxBelow := x.maxBelow.getD t.maxBelow,
    maxEvents := x.maxEvents.getD t.maxEvents }

/-- A clamped value with whether the clamp acted. -/
def clampTo (lo hi : Nat) (v : Int) : Nat × Bool :=
  let c := clampInt lo hi v
  (c.toNat, c != v)

/-- An optional member clamped. -/
def clampOpt (lo hi : Nat) : Option Int → Option Nat × Bool
  | some v => ((clampTo lo hi v).1, (clampTo lo hi v).2)
  | none => (none, false)

/-- The limit members clamped into their ranges (R121). -/
def clampLimits (x : RawLimits) : Limits × Bool :=
  let tolerance := clampOpt 1 30 x.tolerance
  let windowBelow := clampOpt 0 300 x.windowBelow
  let windowAbove := clampOpt 0 300 x.windowAbove
  let minXpd := clampOpt 0 600 x.minXpd
  let maxDiff := clampOpt 0 600 x.maxDiff
  let errored := clampOpt 0 259200 x.errored
  let severe := clampOpt 0 259200 x.severe
  let outage := clampOpt 0 259200 x.outage
  let minFade := clampOpt 0 600 x.minFade
  let maxBelow := clampOpt 0 259200 x.maxBelow
  let maxEvents := clampOpt 0 65535 x.maxEvents
  ({ tolerance := tolerance.1, windowBelow := windowBelow.1, windowAbove := windowAbove.1, minXpd := minXpd.1,
     maxDiff := maxDiff.1, errored := errored.1, severe := severe.1, outage := outage.1, minFade := minFade.1,
     maxBelow := maxBelow.1, maxEvents := maxEvents.1 },
   tolerance.2 || windowBelow.2 || windowAbove.2 || minXpd.2 || maxDiff.2 || errored.2 || severe.2 || outage.2 ||
     minFade.2 || maxBelow.2 || maxEvents.2)

/-- Whether only the limit members of a kind are present (R120, R121). An entry carries all eleven members whatever its
kind, and one of another kind that is present refuses it (DESIGN CHOICE, log 84). -/
def limitsFit (x : RawLimits) (k : StepKind) : Bool :=
  let only (tol win xpd diff err soak : Bool) : Bool :=
    (tol || x.tolerance.isNone) && (win || (x.windowBelow.isNone && x.windowAbove.isNone)) &&
      (xpd || x.minXpd.isNone) && (diff || x.maxDiff.isNone) &&
      (err || (x.errored.isNone && x.severe.isNone && x.outage.isNone)) &&
      (soak || (x.minFade.isNone && x.maxBelow.isNone && x.maxEvents.isNone))
  match k with
  | .align => only true false false false false false
  | .level => only false true false false false false
  | .xpd => only false false true false false false
  | .diversity => only false false false true false false
  | .errtest => only false false false false true false
  | .soak => only false false false false false true
  | .wait | .handover => only false false false false false false

/-! ## Checking a loaded entry (R120, R122) -/

/-- A code of a named set that may be absent: none where a present code names nothing. -/
def optCode {α : Type} (of : Nat → Option α) : Option Nat → Option (Option α)
  | none => some none
  | some n => (of n).map some

/-- The branches named, in branch-number order without duplicates; none where a number is above 3. -/
def branchSet (ns : List Nat) : Option (List Branch) :=
  if ns.all fun n => decide (n < 4) then some (allBranches.filter fun b => decide (Branch.num b ∈ ns)) else none

def optBranches : Option (List Nat) → Option (Option (List Branch))
  | none => some none
  | some ns => (branchSet ns).map some

/-- Whether a set of branches is one that a kind takes (R120). -/
def StepKind.branchesOk (k : StepKind) (bs : Option (List Branch)) : Bool :=
  match k, bs with
  | .align, some bs | .soak, some bs => decide (1 ≤ bs.length) && decide (bs.length ≤ 2)
  | .level, some bs => decide (1 ≤ bs.length)
  | .diversity, some bs => allPols.any fun p => decide (Pol.main p ∈ bs) && decide (Pol.div p ∈ bs)
  | .xpd, none | .errtest, none | .wait, none | .handover, none => true
  | _, _ => false

/-- Whether a field is present exactly as a kind requires it. -/
def StepKind.polOk (k : StepKind) (present : Bool) : Bool :=
  match k with
  | .xpd | .errtest => present
  | _ => !present

def StepKind.durationOk (k : StepKind) (present : Bool) : Bool :=
  match k with
  | .align => true
  | _ => present

def StepKind.farOk (k : StepKind) (m : Option RequestMode) : Bool :=
  match k with
  | .align | .level | .diversity => true
  | .errtest => m.isNone || m == some .pattern
  | .xpd | .soak | .wait | .handover => m.isNone

def StepKind.localOk (k : StepKind) (m : Option RequestMode) : Bool :=
  match k with
  | .align | .level | .xpd | .diversity => true
  | .errtest => m.isNone || m == some .pattern
  | .soak => m.isNone || m == some .traffic
  | .wait | .handover => m.isNone

def StepKind.channelOk (k : StepKind) (present : Bool) : Bool :=
  match k with
  | .wait | .handover => !present
  | _ => true

def StepKind.waitOk (k : StepKind) (present : Bool) : Bool :=
  match k with
  | .wait => present
  | _ => !present

/-- The duration's range in seconds (R120). -/
def StepKind.durationRange : StepKind → Nat × Nat
  | .align | .wait | .handover => (1, 86400)
  | .level | .xpd | .diversity => (1, 600)
  | .errtest => (1, 259200)
  | .soak => (60, 259200)

/-- On-fail's choice (R120): its count byte is always there, without a presence byte, and is read for REPEAT alone (DESIGN
CHOICE, log 71). -/
def OnFail.ofCodes (code count : Nat) : Option OnFail :=
  match code with
  | 0 => some .stop
  | 1 => some .continueOn
  | 2 => if 1 ≤ count ∧ count ≤ 7 then some (.repeatStep count) else none
  | _ => none

/-- A channel field: its number, its quantity with a fitted source, its interval clamped (R120, R122). The interval given
for ERR_INTERVAL is disregarded, as R47 has it at BIND: 1,000 is stored, and nothing counts as clamped (DESIGN CHOICE,
log 85). -/
def State.channelField (s : State) : Option RawChannel → Option (Option StepChannel × Bool)
  | none => some (none, false)
  | some r =>
    match channelOf r.channel, Quantity.ofArgs r.quantity r.source r.scale with
    | some c, some q =>
      if s.sourceFits q then
        if q.isErrInterval then some (some { channel := c, quantity := q, interval := 1000 }, false)
        else
          let i := clampTo 1 60000 r.interval
          some (some { channel := c, quantity := q, interval := i.1 }, i.2)
      else none
    | _, _ => none

/-- An entry as LOAD_STEPS stores it, with whether anything was clamped; none where R122's check 4 refuses it. -/
def State.stepOf (s : State) (r : RawStep) : Option (Step × Bool) := do
  let kind ← StepKind.ofNum r.kind
  let branches ← optBranches r.branches
  let pols ← optCode Pols.ofNum r.pol
  let far ← optCode RequestMode.ofNum r.farMode
  let loc ← optCode RequestMode.ofNum r.locMode
  let wait ← optCode WaitCond.ofNum r.wait
  let onFail ← OnFail.ofCodes r.onFail r.repeats
  let chan ← s.channelField r.channel
  if kind.branchesOk branches && (branches.getD []).all (fun b => (s.branch b).fitted) && kind.polOk pols.isSome &&
      kind.durationOk r.duration.isSome && kind.farOk far && kind.localOk loc && limitsFit r.limits kind &&
      kind.channelOk chan.1.isSome && kind.waitOk wait.isSome then
    let range := kind.durationRange
    let duration := clampOpt range.1 range.2 (r.duration.map Int.ofNat)
    let limits := clampLimits r.limits
    some
      ({ kind := kind, branches := branches.getD [], pols := pols, duration := duration.1, farMode := far,
         locMode := loc, limits := limits.1, channel := chan.1, onFail := onFail, label := r.label, wait := wait },
       duration.2 || limits.2 || chan.2)
  else none

/-- The entries of a LOAD_STEPS checked in order: the steps with their clamp flags, or the place of the first refused. -/
def State.stepsOf (s : State) : Nat → List RawStep → Except Nat (List (Step × Bool))
  | _, [] => .ok []
  | i, r :: rest =>
    match s.stepOf r with
    | none => .error i
    | some x => match s.stepsOf (i + 1) rest with
      | .ok xs => .ok (x :: xs)
      | .error j => .error j

/-! ## The check of a whole plan (R124) -/

/-- Whether a step at an index of a plan of a length passes RUN_PLAN's check. -/
def State.stepRuns (s : State) (length index : Nat) (x : Step) : Bool :=
  (x.kind != .handover || index + 1 == length) && x.branches.all (fun b => (s.branch b).fitted) &&
    (match x.channel with
      | some c => s.sourceFits c.quantity
      | none => true) &&
    (x.kind != .soak || x.branches.all fun b => (s.pfl.branch b).threshold.isSome)

/-- The first index at which a plan fails RUN_PLAN's check. -/
def State.planFault (s : State) : Option Nat :=
  (List.range s.ple.length).find? fun i =>
    match s.ple.table[i]? with
    | some (some x) => !s.stepRuns s.ple.length i x
    | _ => true

/-! ## Entries as payloads (R123, log 25) -/

def natOpt (w : Nat) (x : Option Nat) : List Field := optS w (x.map Int.ofNat)

/-- The limits field of an entry: all eleven members, each optional, whatever the kind (DESIGN CHOICE, log 84). -/
def Limits.fields (x : Limits) : List Field :=
  natOpt 2 x.tolerance ++ natOpt 2 x.windowBelow ++ natOpt 2 x.windowAbove ++ natOpt 2 x.minXpd ++
    natOpt 2 x.maxDiff ++ optU 4 x.errored ++ optU 4 x.severe ++ optU 4 x.outage ++ natOpt 2 x.minFade ++
    optU 4 x.maxBelow ++ optU 2 x.maxEvents

/-- The resolved limits of PLAN_STATUS: all eleven, whatever the step's kind (R121, R143; DESIGN CHOICE, log 70). -/
def Resolved.fields (x : Resolved) : List Field :=
  [.s 2 x.tolerance, .s 2 x.windowBelow, .s 2 x.windowAbove, .s 2 x.minXpd, .s 2 x.maxDiff, .u 4 x.errored,
    .u 4 x.severe, .u 4 x.outage, .s 2 x.minFade, .u 4 x.maxBelow, .u 2 x.maxEvents]

def StepChannel.fields (c : StepChannel) : List Field :=
  [.u 1 c.channel.val, .u 1 c.quantity.num, .u 1 c.quantity.source, .u 1 (Scale.num c.quantity.scale), .u 2 c.interval]

/-- An entry's fields in R120's order. -/
def Step.fields (x : Step) : List Field :=
  [.u 1 (StepKind.num x.kind)] ++
    (if x.branches.isEmpty then [.u 1 0, .u 1 0]
     else .u 1 1 :: listOf (x.branches.map fun b => [.u 1 (Branch.num b)])) ++
    optU 1 (x.pols.map Pols.num) ++ optU 4 x.duration ++ optU 1 (x.farMode.map RequestMode.num) ++
    optU 1 (x.locMode.map RequestMode.num) ++ x.limits.fields ++
    optGroup 6 (x.channel.map StepChannel.fields) ++
    [.u 1 (OnFail.num x.onFail), .u 1 (OnFail.count x.onFail), .u 2 x.label] ++
    optU 1 (x.wait.map WaitCond.num)

/-- What an entry takes at least, without branches: the zeros that stand for an empty position (R178, log 25). -/
def stepEntrySize : Nat := 68

/-- A position of the table: a presence byte, then the entry or zeros. -/
def positionFields (x : Option Step) : List Field := optGroup stepEntrySize (x.map Step.fields)

/-- READ_STEPS (R123): the positions, then the plan length, cut to the table's end and to the port's limit. -/
def State.readStepsFrom (s : State) (p : Port) (start count : Nat) : State × Reply :=
  if 31 < start then refuse .badArgument s
  else
    let xs := ((s.ple.table.drop start).take count).map positionFields
    tell (listOf (takeFitting (Port.limit p - 2) xs) ++ [.u 1 s.ple.length]) s

end Sys2Proof.Machine
end

