-- ==== Sys2Proof/Machine/Measure.lean ====
section
/-! DEFINITION. The step kinds' accumulators, verdicts and items (R134 to R141). -/

namespace Sys2Proof.Machine

/-! ## Accumulators -/

def LevelAcc.zero : LevelAcc := { levelSum := 0, predSum := 0, count := 0, nominal := false, uncal := false }
def XpdAcc.zero : XpdAcc := { sum := 0, count := 0, atLeast := false, uncal := false }
def DivAcc.zero : DivAcc := { signed := 0, magn := 0, count := 0, uncal := false }
def SoakAcc.zero : SoakAcc := { range := none, below := 0, events := 0, flag := false, count := 0, uncal := false }

def Acc.zero : Acc := { level := .all .zero, xpd := .all .zero, div := .all .zero, soak := .all .zero, wakes := 0 }

/-- One measure second of a LEVEL branch (R136). -/
def State.levelSecond (s : State) (b : Branch) (a : LevelAcc) : LevelAcc :=
  match s.seed b, (s.point b).pred with
  | some x, .level p nominal =>
    { levelSum := a.levelSum + x.smoothed, predSum := a.predSum + p, count := a.count + 1,
      nominal := a.nominal || nominal, uncal := a.uncal || x.flags.uncal }
  | _, _ => a

/-- One measure second of an XPD half (R137). -/
def State.xpdSecond (s : State) (p : Pol) (a : XpdAcc) : XpdAcc :=
  match s.xpd p with
  | some f =>
    { sum := a.sum + f.value, count := a.count + 1, atLeast := a.atLeast || f.atLeast, uncal := a.uncal || f.flags.uncal }
  | none => a

/-- One measure second of a covered polarization (R138). -/
def State.divSecond (s : State) (p : Pol) (a : DivAcc) : DivAcc :=
  match s.divDiff p with
  | some f =>
    { signed := a.signed + f.value, magn := a.magn + f.value.natAbs, count := a.count + 1,
      uncal := a.uncal || f.flags.uncal }
  | none => a

/-- One measure second of a SOAK branch (R140). -/
def State.soakSecond (s : State) (b : Branch) (minFade : Nat) (a : SoakAcc) : SoakAcc :=
  match s.fadeMargin b, s.smoothed b with
  | some f, some x =>
    let range := match a.range with
      | some (lo, hi) => (min lo x, max hi x)
      | none => (x, x)
    let below : Bool := decide (f.value < (minFade : Int))
    { range := some range, below := a.below + below.toNat, events := a.events + (below && !a.flag).toNat, flag := below,
      count := a.count + 1, uncal := a.uncal || f.flags.uncal }
  | _, _ => a

/-- One measure second of a step: its figures enter the accumulators (R132). -/
def State.second (s : State) (x : Step) (half : Option Pol) (l : Resolved) (a : Acc) : Acc :=
  match x.kind with
  | .level => { a with level := x.branches.foldl (fun m b => m.set b (s.levelSecond b (m.get b))) a.level }
  | .xpd => match half with
    | some p => { a with xpd := a.xpd.set p (s.xpdSecond p (a.xpd.get p)) }
    | none => a
  | .diversity => { a with div := x.covered.foldl (fun m p => m.set p (s.divSecond p (m.get p))) a.div }
  | .soak => { a with soak := x.branches.foldl (fun m b => m.set b (s.soakSecond b l.minFade (m.get b))) a.soak }
  | .align | .errtest | .wait | .handover => a

/-! ## Means -/

/-- A mean, rounded half away from zero (R134). -/
def mean (sum : Int) (count : Nat) : Option Int := if count = 0 then none else some (roundAway sum count)

def LevelAcc.mean (a : LevelAcc) : Option Int := Sys2Proof.Machine.mean a.levelSum a.count
def LevelAcc.predMean (a : LevelAcc) : Option Int := Sys2Proof.Machine.mean a.predSum a.count
def XpdAcc.mean (a : XpdAcc) : Option Int := Sys2Proof.Machine.mean a.sum a.count
def DivAcc.mean (a : DivAcc) : Option Int := Sys2Proof.Machine.mean a.signed a.count
def DivAcc.magnMean (a : DivAcc) : Option Int := Sys2Proof.Machine.mean a.magn a.count

/-! ## Results -/

/-- A step's verdict, with its reason and items. -/
structure Result where
  verdict : Verdict
  reason  : Option Reason
  items   : List Item
  deriving DecidableEq, Repr

def elapsedItem (elapsed : Nat) : Item := plainItem .elapsed elapsed .second

def wakeItem (a : Acc) : Item := plainItem .wakeCount a.wakes .count

/-- The verdict of figures that are each absent, inside the limits or outside them (R136 to R140). -/
def judge (figures : List (Option Bool)) (items : List Item) : Result :=
  if figures.any Option.isNone then { verdict := .fail, reason := some .noData, items := items }
  else if figures.all (· == some true) then { verdict := .pass, reason := none, items := items }
  else { verdict := .fail, reason := some .limit, items := items }

/-- The items of an ALIGN branch (R135). -/
def State.alignItems (s : State) (b : Branch) : List Item :=
  let r := s.point b
  let held := match r.peak with
    | some k =>
      [{ code := .heldPeak, place := .branch b, value := k.held, scale := .db10, falsePeak := s.falsePeak b,
         nominal := r.pred.isNominal, uncal := k.uncal }]
    | none => []
  let now := match s.seed b with
    | some x => [{ code := .smoothed, place := .branch b, value := x.smoothed, scale := .db10, uncal := x.flags.uncal }]
    | none => []
  let dev := match s.deviation b with
    | some f =>
      [{ code := .deviation, place := .branch b, value := f.value, scale := .db10, nominal := f.nominal,
         uncal := f.flags.uncal }]
    | none => []
  held ++ now ++ dev

/-- A LEVEL branch: whether it passes, and its items (R136). -/
def judgeLevel (l : Resolved) (b : Branch) (a : LevelAcc) : Option Bool × List Item :=
  match a.mean, a.predMean with
  | some m, some pm =>
    let d := m - pm
    (some (decide (-(l.windowBelow : Int) ≤ d) && decide (d ≤ (l.windowAbove : Int))),
      [{ code := .meanLevel, place := .branch b, value := m, scale := .db10, nominal := a.nominal, uncal := a.uncal },
       { code := .deviation, place := .branch b, value := d, scale := .db10, nominal := a.nominal, uncal := a.uncal }])
  | _, _ => (none, [])

def xpdCode : Pol → ItemCode
  | .h => .xpdH
  | .v => .xpdV

/-- An XPD half (R137). SECONDS_COUNTED is a count, to whose value no level goes, and it never carries UNCAL (R134; DESIGN
CHOICE, log 86). -/
def judgeXpd (l : Resolved) (p : Pol) (a : XpdAcc) : Option Bool × List Item :=
  let counted : Item := { code := .secondsCounted, place := .pol p, value := a.count, scale := .second }
  match a.mean with
  | some m =>
    (some (decide ((l.minXpd : Int) ≤ m)),
      [{ code := xpdCode p, place := .pol p, value := m, scale := .db10, atLeast := a.atLeast, uncal := a.uncal }, counted])
  | none => (none, [counted])

def divAbsCode : Pol → ItemCode
  | .h => .divAbsH
  | .v => .divAbsV

def divDiffCode : Pol → ItemCode
  | .h => .divDiffH
  | .v => .divDiffV

/-- A covered polarization of a DIVERSITY step (R138). -/
def judgeDiv (l : Resolved) (p : Pol) (a : DivAcc) : Option Bool × List Item :=
  match a.magnMean, a.mean with
  | some g, some m =>
    (some (decide (g ≤ (l.maxDiff : Int))),
      [{ code := divAbsCode p, place := .pol p, value := g, scale := .db10, uncal := a.uncal },
       { code := divDiffCode p, place := .pol p, value := m, scale := .db10, uncal := a.uncal }])
  | _, _ => (none, [])

/-- A tested polarization of an ERRTEST step (R139). -/
def judgeTest (l : Resolved) (p : Pol) (t : Totals) : Option Bool × List Item :=
  let item (code : ItemCode) (n : Nat) : Item := { code := code, place := .pol p, value := n, scale := .count }
  (some (decide (t.errored ≤ l.errored) && decide (t.severe ≤ l.severe) && decide (t.outage ≤ l.outage)),
    [item .errored t.errored, item .severe t.severe, item .outage t.outage])

/-- A SOAK branch (R140). Without a contributing second the two levels are absent and left out (R134), and the two
counts, which are kept from the step's start, stay. Both counts compare levels, and they carry UNCAL as the levels do
(R134; DESIGN CHOICE, log 86). -/
def judgeSoak (l : Resolved) (b : Branch) (a : SoakAcc) : Option Bool × List Item :=
  let item (code : ItemCode) (v : Int) (scale : Scale) : Item :=
    { code := code, place := .branch b, value := v, scale := scale, uncal := a.uncal }
  let counts : List Item := [item .secondsBelow a.below .second, item .fadeEvents a.events .count]
  match a.range with
  | some (lo, hi) =>
    (some (decide (a.below ≤ l.maxBelow) && decide (a.events ≤ l.maxEvents)),
      [item .minLevel lo .db10, item .maxLevel hi .db10] ++ counts)
  | none => (none, counts)

def judgeAll (xs : List (Option Bool × List Item)) : Result := judge (xs.map Prod.fst) (xs.flatMap Prod.snd)

/-- The halves an XPD step has measured at its conclusion, in order (R137). -/
def Step.halves (x : Step) : List Pol := x.testPols

/-- The result of a step whose elapsed has reached its duration, or whose test is complete (R132, R135 to R140, R154,
R169). -/
def State.resultOf (s : State) (x : Step) (c : StepCtx) : Result :=
  match x.kind with
  | .align => { verdict := .fail, reason := some .timeout, items := x.branches.flatMap s.alignItems }
  | .level => judgeAll (x.branches.map fun b => judgeLevel c.limits b (c.acc.level.get b))
  | .xpd => judgeAll (x.halves.map fun p => judgeXpd c.limits p (c.acc.xpd.get p))
  | .diversity => judgeAll (x.covered.map fun p => judgeDiv c.limits p (c.acc.div.get p))
  | .errtest => judgeAll (x.testPols.map fun p => judgeTest c.limits p (s.count p).totals)
  | .soak => judgeAll (x.branches.map fun b => judgeSoak c.limits b (c.acc.soak.get b))
  | .wait => { verdict := .fail, reason := some .timeout, items := [wakeItem c.acc] }
  | .handover =>
    { verdict := .fail, reason := some .noPeerEcho,
      items := [digestItem .digestLocal s.acr.localDigest, elapsedItem c.elapsed] }

/-- The items of a step whose settle limit expired (R131). -/
def State.settleItems (s : State) (x : Step) : List Item :=
  x.settleBranches.filterMap fun b =>
    (s.seed b).map fun v =>
      { code := .smoothed, place := .branch b, value := v.smoothed, scale := .db10, uncal := v.flags.uncal }

/-- A result left with no item carries the ELAPSED item (R134). -/
def Result.filled (r : Result) (elapsed : Nat) : Result :=
  if r.items.isEmpty then { r with items := [elapsedItem elapsed] } else r

/-! ## Accumulators as payloads (R143)

Sums of levels in 4 signed bytes, then the counts and the indications, then the means (DESIGN CHOICE, log 69). -/

def LevelAcc.fields (a : LevelAcc) : List Field :=
  [.s 4 a.levelSum, .s 4 a.predSum, .u 2 a.count, yes a.nominal, yes a.uncal] ++ optS 2 a.mean ++ optS 2 a.predMean

def XpdAcc.fields (a : XpdAcc) : List Field :=
  [.s 4 a.sum, .u 2 a.count, yes a.atLeast, yes a.uncal] ++ optS 2 a.mean

def DivAcc.fields (a : DivAcc) : List Field :=
  [.s 4 a.signed, .s 4 a.magn, .u 2 a.count, yes a.uncal] ++ optS 2 a.mean ++ optS 2 a.magnMean

def SoakAcc.fields (a : SoakAcc) : List Field :=
  optS 2 (a.range.map Prod.fst) ++ optS 2 (a.range.map Prod.snd) ++
    [.u 4 a.below, .u 4 a.events, yes a.flag, .u 4 a.count, yes a.uncal]

/-- The accumulators of a step's kind, with each mean it would form now: a list, with its count, where the step's
branches or polarizations give their number (R143, R178). -/
def Acc.fields (a : Acc) (x : Step) : List Field :=
  match x.kind with
  | .level => listOf (x.branches.map fun b => (a.level.get b).fields)
  | .xpd => listOf (x.halves.map fun p => (a.xpd.get p).fields)
  | .diversity => listOf (x.covered.map fun p => (a.div.get p).fields)
  | .soak => listOf (x.branches.map fun b => (a.soak.get b).fields)
  | .wait => [.u 2 a.wakes]
  | .align | .errtest | .handover => []

end Sys2Proof.Machine
end

