-- ==== Sys2Proof/Machine/Plan.lean ====
section
/-! DEFINITION. The Plan Engine (chapters 7 to 9): a step's phases, its conclusion, suspension, boundaries, and what the
reports of the other blocks do to the plan. -/

namespace Sys2Proof.Machine

/-! ## The plan record -/

/-- The step at an index of the plan table. -/
def State.stepAt (s : State) (i : Nat) : Option Step := (s.ple.table[i]?).join

/-- The step in progress. -/
def State.current (s : State) : Option Step := s.ple.position.bind s.stepAt

def State.setCtx (s : State) (c : Option StepCtx) : State := s.setPle { s.ple with ctx := c }

def State.setTodo (s : State) (t : Option Todo) : State := s.setPle { s.ple with todo := t }

/-- The plan state moves, and PLAN_STATE is posted with its reason (R143). -/
def State.movePlan (s : State) (new : PlanState) (reason : PlanReason) : State :=
  let old := s.ple.state
  (s.setPle { s.ple with state := new }).post .planState
    ([.u 1 (PlanState.num old), .u 1 (PlanState.num new), .u 1 (PlanReason.num reason)] ++ optU 1 s.ple.position)

/-- The plan state moves where it differs. -/
def State.movePlanTo (s : State) (new : PlanState) (reason : PlanReason) : State :=
  if s.ple.state = new then s else s.movePlan new reason

/-- The plan becomes HALTED (R142). -/
def State.halt (s : State) (r : HaltReason) : State :=
  (s.setPle { s.ple with ctx := none, halt := some r, pauseReq := false }).movePlan .halted r.toPlan

/-- The plan becomes COMPLETE (R142). -/
def State.complete (s : State) : State :=
  (s.setPle { s.ple with ctx := none, pauseReq := false }).movePlan .complete .complete

/-! ## Suspension (R147, R148) -/

/-- The suspension record as SUSPENDED and PLAN_STATUS carry it (R147). -/
def SuspRec.fields (r : SuspRec) : List Field :=
  let tx (x : TxPicture) : List Field := [.u 1 (TxState.num x.h), .u 1 (TxState.num x.v), .u 1 (SettleState.num x.settle)]
  [.u 1 (Cause.num r.primary)] ++ listOf (r.causes.map fun c => [.u 1 (Cause.num c)]) ++
    [.u 1 r.index, .u 1 r.attempt, .u 1 (StepPhase.num r.phase), .u 4 r.elapsed] ++ r.time.fields ++
    optGroup 3 (r.localTx.map tx) ++ optGroup 3 (r.farTx.map tx) ++
    optGroup 3 (r.peerTurn.map fun x => [.u 1 (PeerState.num x.peer), .u 1 (TurnState.num x.turn), yes x.silent]) ++
    optU 1 (r.branch.map Branch.num) ++
    optGroup 3 (r.remaining.map fun n => [budgetField n])

def State.postSuspended (s : State) : State :=
  match s.ple.susp with
  | some r => s.post .suspended r.fields
  | none => s

/-- Whether a cause writes the local effective mode, and whether it writes the far and the turn pictures (R147). -/
def Cause.isLocal : Cause → Bool
  | .unitMute | .txFault => true
  | _ => false

def Cause.isFar : Cause → Bool
  | .remoteMode | .peerLoss => true
  | _ => false

/-- The channel a step holds, with its number. -/
def State.heldChannel (s : State) (x : Step) (c : StepCtx) : Option (Fin 8 × ChanRec) :=
  if c.held.channel then x.channel.bind fun f => (s.channel f.channel).map fun r => (f.channel, r) else none

/-- The suspension record of this moment (R147). -/
def State.suspRecord (s : State) (x : Step) (c : StepCtx) (cause : Cause) (branch : Option Branch) : SuspRec :=
  { primary := cause, causes := [cause], index := s.ple.position.getD 0, attempt := c.attempt, phase := c.phase,
    elapsed := c.elapsed, time := s.recTime,
    localTx := if cause.isLocal then some { h := s.tma.driven.h, v := s.tma.driven.v, settle := s.tma.settle } else none,
    farTx := if cause.isFar then s.pcu.last.map fun f => { h := f.h, v := f.v, settle := f.settle } else none,
    peerTurn := if cause.isFar then some { peer := s.pcu.peer, turn := s.pcu.turn, silent := s.pcu.silent } else none,
    branch := if cause = .sourceLoss then branch else none,
    remaining := (s.heldChannel x c).map fun r => r.2.remaining }

/-- The step in progress suspends (R147, R170). R147 gives its actions no fixed order: here the channel, the test, the
digest, SUSPENDED and PLAN_STATE (DESIGN CHOICE, log 79). -/
def State.suspend (s : State) (x : Step) (c : StepCtx) (cause : Cause) (branch : Option Branch) : State :=
  let r := s.suspRecord x c cause branch
  let c' := { c with phaseTimer := none, measureTimer := none, suspensions := satSucc 255 c.suspensions }
  let s := s.setPle { s.ple with
    ctx := some c', susp := some r, limitTimer := some (1000 * s.pfl.timing.suspLimit), todo := none }
  let s := match s.heldChannel x c with
    | some ch => (s.haltChannel ch.1 .suspended).1
    | none => s
  let s := s.pauseTest
  let s := if x.kind = .handover then s.dropDigest else s
  s.postSuspended.movePlan .suspended .suspend

/-- A cause joins the cause set of a suspended step (R148), at the end of the list in which the set is held and sent
(DESIGN CHOICE, log 82). -/
def State.joinCause (s : State) (cause : Cause) : State :=
  match s.ple.susp with
  | some r =>
    if cause ∈ r.causes then s
    else (s.setPle { s.ple with susp := some { r with causes := r.causes ++ [cause] } }).postSuspended
  | none => s

/-- A cause joins the seen set of a paused plan (R156), at the end of its list (DESIGN CHOICE, log 82). -/
def State.noteCause (s : State) (cause : Cause) : State :=
  match s.ple.pauseRec with
  | some r =>
    if cause ∈ r.seen then s else s.setPle { s.ple with pauseRec := some { r with seen := r.seen ++ [cause] } }
  | none => s

/-- The suspension record and its limit timer end. -/
def State.endSuspension (s : State) : State := s.setPle { s.ple with susp := none, limitTimer := none }

/-! ## Conclusion (R133, R142, R155) -/

/-- The entry of a step's result (R133). -/
def State.stepEntry (s : State) (x : Step) (c : StepCtx) (kind : EntryKind) (r : Result) : Entry :=
  { seq := 0, kind := kind, step := some { index := s.ple.position.getD 0, label := x.label, attempt := c.attempt },
    verdict := some r.verdict, reason := r.reason, startTime := c.startTime, endTime := s.recTime,
    suspensions := c.suspensions, superseded := false, ref := none, items := r.items }

/-- STEP_DONE (R143): a byte says whether the entry is stored, pending or discarded, and its number follows where it is
stored (DESIGN CHOICE, log 68). Its items take R185's form of an entry's items, beside a verdict and a reason numbered
from 0 as R178 has them (DESIGN CHOICE, log 90). -/
def State.postStepDone (s : State) (x : Step) (c : StepCtx) (r : Result) (d : Disposition) : State :=
  let place : List Field := match d with
    | .stored n => .u 1 0 :: optU 2 (some n)
    | .pending => .u 1 1 :: optU 2 none
    | .discarded => .u 1 2 :: optU 2 none
  s.post .stepDone
    ([.u 1 (s.ple.position.getD 0), .u 1 (StepKind.num x.kind), .u 2 x.label, .u 1 c.attempt,
      .u 1 (Verdict.code r.verdict)] ++ optU 1 (r.reason.map Reason.code) ++ place ++ listOf (r.items.map Item.fields))

/-- The step's resources are released (R133, step 3; log 37): turn, PLAN slot, channel, test. R133 gives the four no
fixed order (DESIGN CHOICE, log 79). -/
def State.release (s : State) (x : Step) (c : StepCtx) : State :=
  let s := if c.held.turn then s.releaseOf .plan else s
  let s := if c.held.localMode then s.setPlanSlot none else s
  let s := match s.heldChannel x c with
    | some ch => s.freeChannel ch.1 .command
    | none => s
  if c.held.test then s.planReleaseTest else s

/-- At a step boundary the plan pauses, or goes on to start a step; a skipped step makes it RUNNING again (R151, R155). Its
PLAN_STATE with reason SKIP is posted before the next step's start sets the position, so it carries the index of the
step skipped (R127; DESIGN CHOICE, log 87). -/
def State.boundary (s : State) (start : StepStart) : State :=
  if s.ple.pauseReq || s.ple.stepMode then
    let reason := if s.ple.stepMode then PauseReason.stepped else .pause
    let r : PauseRec := { reason := reason, next := start, time := s.recTime, seen := [] }
    (s.setPle { s.ple with ctx := none, pauseReq := false, pauseRec := some r }).movePlan .paused reason.toPlan
  else (s.movePlanTo .running .skip).setTodo (some (.start start))

/-- A step's first start at an index (R127). -/
def State.firstStart (s : State) (i : Nat) : StepStart :=
  { index := i, attempt := 1, repeats := ((s.stepAt i).map fun x => OnFail.count x.onFail).getD 0 }

/-- On to the step after the position, or the plan's end (R142). -/
def State.nextStep (s : State) : State :=
  let i := s.ple.position.getD 0 + 1
  if i < s.ple.length then s.boundary (s.firstStart i) else s.complete

/-- Going on by the verdict and the on-fail choice (R142). -/
def State.goOn (s : State) (x : Step) (c : StepCtx) (v : Verdict) : State :=
  if v = .pass then s.nextStep
  else match x.onFail with
    | .continueOn => s.nextStep
    | .stop => s.halt .onFail
    | .repeatStep _ =>
      if 0 < c.repeats then
        s.boundary { index := s.ple.position.getD 0, attempt := c.attempt + 1, repeats := c.repeats - 1 }
      else s.halt .onFail

/-- Where the plan goes after a conclusion. -/
inductive After where
  | byVerdict | skipped | limit
  deriving DecidableEq, Repr

/-- CONCLUDE (R133), and what follows (R142, R151, R152, R161). -/
def State.conclude (s : State) (x : Step) (c : StepCtx) (r : Result) (after : After) : State :=
  let c := { c with phase := .conclude, phaseTimer := none, measureTimer := none }
  let r := r.filled c.elapsed
  let s := s.endSuspension.setCtx (some c)
  let rec_ := s.record (s.stepEntry x c .stepResult r)
  let s := (rec_.1.release x c).postStepDone x c r rec_.2
  match rec_.2 with
  | .stored _ => match after with
    | .byVerdict => s.goOn x c r.verdict
    | .skipped => s.nextStep
    | .limit => s.halt .suspensionLimit
  | _ => s.halt .recordFull

/-- The step concludes by its kind's rule, its duration or its test being complete. -/
def State.finish (s : State) (x : Step) (c : StepCtx) : State :=
  let r := s.resultOf x c
  let s := if x.kind = .handover then s.dropDigest else s
  s.conclude x c r .byVerdict

/-! ## Step start and PREPARE (R127 to R130) -/

/-- The context a step starts with (R127). -/
def State.newCtx (s : State) (x : Step) (st : StepStart) : StepCtx :=
  { attempt := st.attempt, repeats := st.repeats, phase := .prepare, half := x.firstHalf, elapsed := 0,
    started := false, phaseTimer := none, measureTimer := none, startTime := s.recTime, suspensions := 0,
    held := { channel := false, localMode := false, turn := false, test := false }, reached := false,
    testEnded := false, acc := .zero, limits := x.limits.resolve s.pfl }

/-- An ALIGN step empties its branches' peaks and sets the pointing branch (R127). -/
def State.alignStart (s : State) (x : Step) : State :=
  if x.kind = .align then
    let s := x.branches.foldl State.emptyPeak s
    match x.branches with
    | b :: _ => s.pointAt b
    | [] => s
  else s

/-- A step starts (R127). -/
def State.startStep (s : State) (st : StepStart) : State :=
  match s.stepAt st.index with
  | some x =>
    let s := s.setPle { s.ple with position := some st.index, ctx := some (s.newCtx x st) }
    (s.alignStart x).setTodo (some .prepare)
  | none => s

/-- The conditions R128 tests, in the order of R144. Of several branches that are OFF the first in branch order is named
(R147; DESIGN CHOICE, log 72). -/
def State.standing (s : State) (x : Step) : List (Cause × Option Branch) :=
  (match x.lossBranches.find? s.isOff with
    | some b => [(Cause.sourceLoss, some b)]
    | none => []) ++
    (if s.tma.settle = .fault then [(Cause.txFault, none)] else []) ++
    (if x.mutedBy s.tma.mute then [(Cause.unitMute, none)] else [])

/-- The plan channel's budget (R130). -/
def planBudget (x : Step) (interval : Nat) : Option Nat :=
  let d := x.duration.getD 0
  match x.kind with
  | .align => none
  | .xpd => some (clampNat 1 16777214 (if x.pols = some .both then 2 * d * 1000 / interval else d * 1000 / interval))
  | _ => some (clampNat 1 16777214 (d * 1000 / interval))

/-- The arguments of a plan bind (R130). -/
def planShape (x : Step) (f : StepChannel) : Shape :=
  { quantity := f.quantity, interval := f.interval, budget := planBudget x f.interval, pageSize := 32, pageCount := 4,
    policy := .overwrite, hold := true }

/-- TURN_REQUEST for the step's far mode, unless the step's turn already asks it (R110, R128). -/
def State.ensureTurn (s : State) (x : Step) (c : StepCtx) : State × StepCtx :=
  match x.farModeIn c.half with
  | none => (s, c)
  | some m =>
    if c.held.turn && s.pcu.req.mode == some m then (s, c)
    else
      let r := s.askTurn .plan m
      (r.1, { c with held := { c.held with turn := r.2 == .ok } })

/-- The far condition of R129 (log 43). -/
def State.farCondition (s : State) (x : Step) (c : StepCtx) : Bool :=
  match x.farModeIn c.half with
  | none => true
  | some m => match s.pcu.req with
    | .holding .plan m' false .matched against => m' == m && against == m
    | _ => false

/-- The local condition of R129. -/
def State.localCondition (s : State) (x : Step) : Bool :=
  match x.localMode with
  | none => true
  | some m => s.tma.settle == .settled && (s.tma.driven.h, s.tma.driven.v) == m.pair

/-- The conditions of PREPARE are tested; where both hold the step goes on (R129). -/
def State.evalPrepare (s : State) (x : Step) (c : StepCtx) : State :=
  if s.farCondition x c && s.localCondition x then
    (s.setCtx (some { c with phaseTimer := none, reached := (x.farModeIn c.half).isSome })).setTodo
      (some (if x.kind = .wait then .measure else .settle))
  else s

/-- The ACR's checks of a HANDOVER step at PREPARE (R167). -/
def State.handoverFault (s : State) (x : Step) (c : StepCtx) : Option Result :=
  if x.kind = .handover then
    match s.acr.openIndices (s.ple.length - 1) with
    | i :: rest =>
      some { verdict := .fail, reason := some .openItems,
             items := [plainItem .openSteps (rest.length + 1 : Nat) .count, plainItem .firstOpen i .count] }
    | [] =>
      if 94 < s.acr.entries.length ∨ 65534 < s.acr.next then
        some { verdict := .fail, reason := some .noRoom, items := [elapsedItem c.elapsed] }
      else none
  else none

/-- The step's channel is bound, unless it is held; the flag says the bind was refused (R130). -/
def State.takeChannel (s : State) (x : Step) (c : StepCtx) : State × StepCtx × Bool :=
  match x.channel with
  | some f =>
    if c.held.channel then (s, c, false)
    else
      let r := s.planBind f.channel (planShape x f)
      if r.2 = .ok then (r.1, { c with held := { c.held with channel := true } }, false) else (r.1, c, true)
  | none => (s, c, false)

/-- The step's local mode is placed, unless it is (R128). -/
def State.takeLocal (s : State) (x : Step) (c : StepCtx) : State × StepCtx :=
  match x.localMode with
  | some m =>
    if c.held.localMode then (s, c)
    else (s.setPlanSlot (some m), { c with held := { c.held with localMode := true } })
  | none => (s, c)

/-- PREPARE without a standing cause: the step takes what it calls for and waits (R128 to R130, R167). -/
def State.gather (s : State) (x : Step) (c : StepCtx) : State :=
  match s.handoverFault x c with
  | some r => s.conclude x c r .byVerdict
  | none =>
    let ch := s.takeChannel x c
    if ch.2.2 then
      ch.1.conclude x ch.2.1 { verdict := .fail, reason := some .noChannel, items := [elapsedItem c.elapsed] } .byVerdict
    else
      let l := ch.1.takeLocal x ch.2.1
      let t := l.1.ensureTurn x l.2
      let c := { t.2 with phaseTimer := some 120000 }
      (t.1.setCtx (some c)).evalPrepare x c

/-- The step enters PREPARE (R128): the standing causes first. -/
def State.enterPrepare (s : State) (x : Step) (c : StepCtx) : State :=
  let c := { c with phase := .prepare, reached := false, phaseTimer := none, measureTimer := none }
  let s := s.setCtx (some c)
  match s.standing x with
  | first :: rest => rest.foldl (fun s y => s.joinCause y.1) (s.suspend x c first.1 first.2)
  | [] => s.gather x c

/-! ## SETTLE and MEASURE (R131, R132) -/

/-- Every settle branch's stable count has reached its dwell (R131). -/
def State.settleCondition (s : State) (x : Step) : Bool :=
  x.settleBranches.all fun b => decide ((s.pfl.branch b).dwell ≤ (s.point b).stable)

def State.evalSettle (s : State) (x : Step) (c : StepCtx) : State :=
  if s.settleCondition x then (s.setCtx (some { c with phaseTimer := none })).setTodo (some .measure) else s

/-- The step enters SETTLE (R131). -/
def State.enterSettle (s : State) (x : Step) (c : StepCtx) : State :=
  let c := { c with phase := .settle, phaseTimer := some 30000 }
  (s.setCtx (some c)).evalSettle x c

/-- A WAIT condition (R154). -/
def State.waitHolds (s : State) (x : Step) : Bool :=
  match x.wait with
  | some .peerPaired => s.pcu.peer == .paired
  | some .turnFree => s.pcu.turn == .none
  | some .timeOnly => false
  | none => false

/-- A WAIT step's condition is tested: it concludes PASS, or parks (R154). -/
def State.testWait (s : State) (x : Step) (c : StepCtx) : State :=
  if s.waitHolds x then s.conclude x c { verdict := .pass, reason := none, items := [wakeItem c.acc] } .byVerdict else s

/-- The step's channel is run, or resumed after the first entry; a refusal is passed over (R132). -/
def State.startChannel (s : State) (x : Step) (c : StepCtx) : State :=
  match s.heldChannel x c with
  | some ch => if c.started then (s.resumeChannel ch.1 ch.2).1 else (s.runChannel ch.1 ch.2).1
  | none => s

/-- The test of an ERRTEST step is started, or resumed after the first entry (R132). -/
def State.startPlanTest (s : State) (x : Step) (c : StepCtx) : State :=
  if x.kind = .errtest then
    if c.started then s.resumeTest else s.planTest (x.pols.getD .both) (x.duration.getD 1)
  else s

/-- Whether elapsed has reached the step's duration. -/
def Step.over (x : Step) (elapsed : Nat) : Bool :=
  match x.duration with
  | some d => decide (d ≤ elapsed)
  | none => false

/-- At the end of the H half of a BOTH step (R137): the channel halts, CW_V is requested, and the V half prepares. -/
def State.halfSwitch (s : State) (x : Step) (c : StepCtx) : State :=
  let s := match s.heldChannel x c with
    | some ch => (s.haltChannel ch.1 .command).1
    | none => s
  let c := { c with half := some .v, elapsed := 0, measureTimer := none }
  let t := s.ensureTurn x c
  (t.1.setCtx (some t.2)).setTodo (some .prepare)

/-- Elapsed has reached the duration: the V half follows, or the step concludes (R132, R137). -/
def State.measured (s : State) (x : Step) (c : StepCtx) : State :=
  if x.kind = .xpd ∧ x.pols = some .both ∧ c.half = some .h then s.halfSwitch x c else s.finish x c

/-- The step enters MEASURE (R132, R154, R167). -/
def State.enterMeasure (s : State) (x : Step) (c : StepCtx) : State :=
  let s := (s.startChannel x c).startPlanTest x c
  let c := { c with
    phase := .measure, started := true, acc := if c.started then c.acc else .zero,
    held := { c.held with test := c.held.test || decide (x.kind = .errtest) },
    measureTimer := if x.kind = .errtest then none else some 1000 }
  let s := if x.kind = .handover then s.formDigest else s
  let s := s.setCtx (some c)
  if x.over c.elapsed then s.measured x c
  else if x.kind = .wait then s.testWait x c
  else s

/-- The measure timer expires: one measure second (R132). -/
def State.measureSecond (s : State) (x : Step) (c : StepCtx) : State :=
  let c := { c with
    elapsed := satSucc 259200 c.elapsed, acc := s.second x c.half c.limits c.acc, measureTimer := some 1000 }
  let s := s.setCtx (some c)
  if x.over c.elapsed then s.measured x c else s

/-! ## The engine -/

/-- One entry of the step's phases, while the plan is RUNNING. -/
def State.perform (s : State) (t : Todo) : State :=
  let s := s.setTodo none
  if s.ple.state = .running then
    match t with
    | .start st => s.startStep st
    | t =>
      match s.current, s.ple.ctx with
      | some x, some c => match t with
        | .prepare => s.enterPrepare x c
        | .settle => s.enterSettle x c
        | .measure => s.enterMeasure x c
        | .start _ => s
      | _, _ => s
  else s

/-- The entries that follow one another within a command, up to a bound that a record of 96 entries cannot reach. -/
def State.drive : Nat → State → State
  | 0, s => s
  | n + 1, s => match s.ple.todo with
    | some t => State.drive n (s.hush fun s => s.perform t)
    | none => s

def driveBound : Nat := 2000

/-! ## Reports (R129, R131, R144 to R146, R148, R154, R156) -/

/-- The cause an event raises for a step in a phase (R144 to R146). A mask change after which a radiated polarization is
muted raises UNIT_MUTE by R144's table, also where the change itself only lifts another mute, or only mutes a polarization
that the local mode leaves OFF (DESIGN CHOICE, log 81). -/
def State.causeOf (s : State) (x : Step) (half : Option Pol) (phase : StepPhase) (reached : Bool) :
    Report → Option (Cause × Option Branch)
  | .maskChange => if x.mutedBy s.tma.mute then some (.unitMute, none) else none
  | .txFault => some (.txFault, none)
  | .branchOff b => if b ∈ x.lossBranches then some (.sourceLoss, some b) else none
  | .farMatch .different => if reached && (phase == .settle || phase == .measure) then some (.remoteMode, none) else none
  | .turnState (some (.plan, .grantWithdrawn)) =>
    if (phase == .settle || phase == .measure) && (x.farModeIn half).isSome then some (.remoteMode, none) else none
  | .turnState (some (.plan, .holdExpired)) => some (.peerLoss, none)
  | .peerState .paired _ =>
    if (phase == .settle || (phase == .measure && x.kind != .align)) && (x.farModeIn half).isSome then
      some (.peerLoss, none)
    else none
  | .abort => some (.installerAbort, none)
  | .presenceLoss => if x.kind = .align then some (.installerAbort, none) else none
  | _ => none

/-- The step's turn has ended (R105): the step no longer holds it. -/
def StepCtx.turnEnded (c : StepCtx) : Report → StepCtx
  | .turnState (some (.plan, _)) => { c with held := { c.held with turn := false } }
  | _ => c

/-- PREPARE at a report of the PCU: a turn that is not held is requested again, and the conditions are tested (R128,
R129). -/
def State.prepareAgain (s : State) (x : Step) (c : StepCtx) : State :=
  let t := if c.held.turn then (s, c) else s.ensureTurn x c
  (t.1.setCtx (some t.2)).evalPrepare x t.2

/-- A parked WAIT step wakes (R154). -/
def State.wake (s : State) (x : Step) (c : StepCtx) : State :=
  if x.kind = .wait ∧ c.phase = .measure then
    let c := { c with acc := { c.acc with wakes := satSucc 65535 c.acc.wakes } }
    (s.setCtx (some c)).testWait x c
  else s

/-- What a report does to the step in progress where it raises no cause. -/
def State.progress (s : State) (x : Step) (c : StepCtx) : Report → State
  | .peerState _ _ | .turnState _ => if c.phase = .prepare then s.prepareAgain x c else s.wake x c
  | .farMatch _ | .transmitter => if c.phase = .prepare then s.evalPrepare x c else s
  | .sample b => if c.phase = .settle ∧ b ∈ x.settleBranches then s.evalSettle x c else s
  | .classChange _ _ _ => s.wake x c
  | .testProgress n => if x.kind = .errtest ∧ c.phase = .measure then s.setCtx (some { c with elapsed := n }) else s
  | .testEnd .complete => if x.kind = .errtest ∧ c.phase = .measure then s.finish x c else s
  | _ => s

/-- A report reaches the PLE. -/
def State.heed (s : State) (r : Report) : State :=
  match s.ple.state with
  | .running =>
    match s.current, s.ple.ctx with
    | some x, some c =>
      let c := c.turnEnded r
      let s := s.setCtx (some c)
      match s.causeOf x c.half c.phase c.reached r with
      | some cause => s.suspend x c cause.1 cause.2
      | none => s.progress x c r
    | _, _ => s
  | .suspended =>
    match s.current, s.ple.ctx with
    | some x, some c =>
      let c := c.turnEnded r
      let c := match r with
        | .testProgress n => if x.kind = .errtest then { c with elapsed := n } else c
        | .testEnd .complete => { c with testEnded := true }
        | _ => c
      let s := s.setCtx (some c)
      match s.causeOf x c.half c.phase c.reached r with
      | some cause => s.joinCause cause.1
      | none => s
    | _, _ => s
  | .paused =>
    match s.ple.pauseRec with
    | some p => match s.stepAt p.next.index with
      | some x => match s.causeOf x x.firstHalf .prepare false r with
        | some cause => s.noteCause cause.1
        | none => s
      | none => s
    | none => s
  | .idle | .loaded | .halted | .complete | .closed => s

/-- The reports of one command reach the PLE in their order, each followed by the entries it leads to (log 21, log 22). -/
def reactTo (rs : List Report) (s : State) : State :=
  rs.foldl (fun s r => State.drive driveBound (s.hush fun s => s.heed r)) s

/-- The end of every command: the PLE's own entries first, then the reports of the blocks. -/
def react (s : State) : State :=
  let s := State.drive driveBound s
  (reactTo s.reports (s.setReports [])).setReports []

/-! ## Plan reset and closing (R126, R158, R168, R171) -/

/-- The plan record as a reset leaves it. -/
def Ple.cleared (p : Ple) : Ple :=
  { p with ctx := none, halt := none, pauseReq := false, susp := none, limitTimer := none, pauseRec := none, todo := none }

/-- LOADED, or IDLE for a plan of length 0. -/
def Ple.rest (p : Ple) : PlanState := if p.length = 0 then .idle else .loaded

/-- A plan reset (R126); the flag says a pending result was discarded. The PLAN slot is emptied, then the turn, the
channels and the test are torn down: R126 gives the four no fixed order (DESIGN CHOICE, log 79). -/
def State.planReset (s : State) : State × Bool :=
  let s := s.hush fun s =>
    (((s.setPle s.ple.cleared).setPlanSlot none).tearDownTurn .plan).tearDown .plan |>.dropTest .plan .reset
  let a := s.acrReset
  (a.1.movePlan a.1.ple.rest .reset, a.2)

/-- What the other blocks tear down as the record becomes CLOSED (R171): the slots PLAN, INSTALLER and PEER in this
order (log 52), then the turn, the channels and the test (DESIGN CHOICE, log 79). -/
def State.closeOthers (s : State) : State :=
  ((((s.setPlanSlot none).setInstSlot none).closeTurn.tearDown .installer).tearDown .plan).closeTest

/-- The HANDOVER step completes on a frame (R168, R171). -/
def State.completeHandover (s : State) (x : Step) (c : StepCtx) (f : PeerFrame) : State :=
  let s := s.setAcr { s.acr with peerDigest := some f.digest }
  let r : Result :=
    { verdict := .pass, reason := none,
      items := [digestItem .digestLocal s.acr.localDigest, digestItem .digestPeer s.acr.peerDigest] }
  let n := s.acr.next
  let s := s.append (s.stepEntry x c .handover r)
  let s := s.setAcr { s.acr with state := .closed }
  let s := (s.setPle s.ple.cleared).postStepDone x c r (.stored n)
  (s.movePlan .closed .close).closeOthers

/-- Whether a frame shows READY or CLOSED. -/
def PeerFrame.ready (f : PeerFrame) : Bool := f.ind != .none

/-- The handover fields of a frame taken while PAIRED (R168). -/
def State.takeHandover (s : State) (f : PeerFrame) : State :=
  if s.pcu.peer ≠ .paired then s
  else
    let s := if f.ready ∧ s.acr.state ≠ .closed then s.setAcr { s.acr with echo := some f.digest } else s
    match s.current, s.ple.ctx with
    | some x, some c =>
      if s.acr.state = .closing ∧ s.ple.state = .running ∧ x.kind = .handover ∧ c.phase = .measure ∧ f.ready ∧
          f.echo.isSome ∧ f.echo = s.acr.localDigest ∧ s.acr.storable then
        s.hush fun s => s.completeHandover x c f
      else s
    | _, _ => s

end Sys2Proof.Machine
end

