-- ==== Sys2Proof/Machine/Profile.lean ====
section
/-! DEFINITION. The Profile Loader (chapter 11): the image's walk, its validity, and the application of a profile. -/

namespace Sys2Proof.Machine

/-! ## The section chain (R185, R188) -/

/-- A visited section: its offset, its kind and its body. -/
structure Section where
  offset : Nat
  kind   : Nat
  body   : List Byte
  deriving DecidableEq, Repr

/-- How a walk ends: with the sections visited, or with the condition of R190 it found. -/
inductive Walk where
  | done (xs : List Section)
  | failed (r : Rejection)
  deriving DecidableEq, Repr

/-- Whether a section's header and body lie within bytes 5 to total length - 3 (R190, condition 5). -/
def sectionLies (img : List Byte) (off : Nat) : Bool :=
  decide (5 ≤ off) && decide (off + 5 ≤ img.length - 2) && decide (off + 5 + wordAt img (off + 1) ≤ img.length - 2)

def sectionAt (img : List Byte) (off : Nat) : Section :=
  { offset := off, kind := byteAt img off, body := (img.drop (off + 5)).take (wordAt img (off + 1)) }

/-- The walk from an offset with so many visits left (R188, R190). -/
def walkFrom (img : List Byte) : Nat → Nat → Walk
  | 0, off =>
    if off = 0 then .done []
    else if sectionLies img off then .failed { reason := .sectionCount, offset := some off }
    else .failed { reason := .offset, offset := some off }
  | n + 1, off =>
    if off = 0 then .done []
    else if sectionLies img off then
      match walkFrom img n (wordAt img (off + 3)) with
      | .done xs => .done (sectionAt img off :: xs)
      | .failed r => .failed r
    else .failed { reason := .offset, offset := some off }

/-- The walk of an image: at most 16 visits. -/
def walk (img : List Byte) : Walk := walkFrom img 16 (wordAt img 3)

/-! ## Section contents (R189) -/

/-- A known kind's body lengths; an unknown kind takes any (R190, condition 7). -/
def Section.lengthOk (x : Section) : Bool :=
  match x.kind with
  | 1 => x.body.length == 6 || x.body.length == 18
  | 2 => x.body.length == 73
  | 3 => x.body.length == 10
  | 4 => x.body.length == 6
  | 5 => x.body.length == 29
  | _ => true

def longAt (bs : List Byte) (i : Nat) : Nat := wordAt bs i * 65536 + wordAt bs (i + 2)

/-- The 16 breakpoints of a BRANCH body. -/
def tableAt (bs : List Byte) (i : Nat) : List (Nat × Int) :=
  (List.range 16).map fun k => (wordAt bs (i + 4 * k), intAt bs (i + 4 * k + 2))

/-- Codes strictly increase and levels do not decrease (R8). -/
def ordered : List (Nat × Int) → Bool
  | a :: b :: rest => decide (a.1 < b.1) && decide (a.2 ≤ b.2) && ordered (b :: rest)
  | _ => true

def inRange (lo hi x : Int) : Bool := decide (lo ≤ x) && decide (x ≤ hi)

def natIn (lo hi n : Nat) : Bool := decide (lo ≤ n) && decide (n ≤ hi)

def windowsOf (b : List Byte) : WindowValues :=
  { hi := wordAt b 0, main := wordAt b 2, edge := wordAt b 4, side := wordAt b 6, hysteresis := byteAt b 8,
    tolerance := byteAt b 9 }

/-- Condition 8 of R190. -/
def Section.orderOk (x : Section) : Bool :=
  match x.kind with
  | 2 => ordered (tableAt x.body 9)
  | 3 => decide (wordAt x.body 2 < wordAt x.body 4) && decide (wordAt x.body 4 < wordAt x.body 6)
  | _ => true

def linkInRange (b : List Byte) : Bool :=
  (EndLetter.ofByte (byteAt b 2)).isSome && natIn 1 15 (byteAt b 3) && inRange (-100) 350 (intAt b 4) &&
    (b.length == 6 ||
      (inRange (-100) 350 (intAt b 6) && natIn 0 700 (wordAt b 8) && natIn 0 700 (wordAt b 10) &&
        natIn 0 700 (wordAt b 12) && natIn 0 700 (wordAt b 14) && natIn 0 3000 (wordAt b 16)))

def branchInRange (b : List Byte) : Bool :=
  natIn 0 3 (byteAt b 0) && natIn 0 300 (wordAt b 1) && (intAt b 3 == -32768 || inRange (-1200) 0 (intAt b 3)) &&
    inRange (-200) 200 (intAt b 5) && natIn 0 7 (byteAt b 7) && natIn 1 255 (byteAt b 8) &&
    (tableAt b 9).all fun p => natIn 0 4095 p.1 && inRange (-1200) 0 p.2

def windowsInRange (b : List Byte) : Bool :=
  natIn 0 200 (wordAt b 0) && natIn 1 200 (wordAt b 2) && natIn 2 600 (wordAt b 4) && natIn 3 1200 (wordAt b 6) &&
    natIn 0 20 (byteAt b 8) && natIn 1 30 (byteAt b 9)

def timingInRange (b : List Byte) : Bool := natIn 10 3600 (wordAt b 0) && natIn 60 86400 (longAt b 2)

def testInRange (b : List Byte) : Bool :=
  natIn 1 100 (byteAt b 0) && natIn 0 300 (wordAt b 1) && natIn 0 300 (wordAt b 3) && natIn 0 600 (wordAt b 5) &&
    natIn 0 600 (wordAt b 7) && natIn 0 259200 (longAt b 9) && natIn 0 259200 (longAt b 13) &&
    natIn 0 259200 (longAt b 17) && natIn 0 600 (wordAt b 21) && natIn 0 259200 (longAt b 23) &&
    natIn 0 65535 (wordAt b 27)

/-- Condition 9 of R190. -/
def Section.rangeOk (x : Section) : Bool :=
  match x.kind with
  | 1 => linkInRange x.body
  | 2 => branchInRange x.body
  | 3 => windowsInRange x.body
  | 4 => timingInRange x.body
  | 5 => testInRange x.body
  | _ => true

/-! ## Validity (R190) -/

/-- The first visited section that breaks one of the conditions 7 to 9. -/
def breaks (reason : RejectReason) (good : Section → Bool) (xs : List Section) : Option Rejection :=
  (xs.find? fun x => !good x).map fun x => { reason := reason, offset := some x.offset }

/-- Conditions 1 and 2 on the header bytes. -/
def headerFault (img : List Byte) : Option Rejection :=
  if byteAt img 0 ≠ 0x5B then some { reason := .format, offset := none }
  else if wordAt img 1 < 7 ∨ 1024 < wordAt img 1 then some { reason := .length, offset := none }
  else none

/-- An image judged whole: its sections, or the first condition it breaks (R190). -/
def judgeImage (img : List Byte) : Except Rejection (List Section) :=
  match headerFault img with
  | some r => .error r
  | none =>
    if wordAt img 1 ≠ img.length then .error { reason := .length, offset := none }
    else if (crc (img.take (img.length - 2))).toNat ≠ wordAt img (img.length - 2) then
      .error { reason := .check, offset := none }
    else match walk img with
      | .failed r => .error r
      | .done xs =>
        match breaks .sectionLength Section.lengthOk xs with
        | some r => .error r
        | none => match breaks .order Section.orderOk xs with
          | some r => .error r
          | none => match breaks .range Section.rangeOk xs with
            | some r => .error r
            | none => .ok xs

/-- The CRC an image carries. -/
def imageCrc (img : List Byte) : Check := BitVec.ofNat 16 (wordAt img (img.length - 2))

/-! ## Taking the sections (R188, R189) -/

def linkOf (b : List Byte) : LinkValues :=
  let mask := byteAt b 3
  { linkId := wordAt b 0, letter := (EndLetter.ofByte (byteAt b 2)).getD .a,
    fitted := { mh := mask.testBit 0, mv := mask.testBit 1, dh := mask.testBit 2, dv := mask.testBit 3 },
    commPower := intAt b 4,
    path := if b.length = 18 then
      some { farPower := intAt b 6, farTxLoss := wordAt b 8, farGain := wordAt b 10, mainGain := wordAt b 12,
             divGain := wordAt b 14, pathLoss := wordAt b 16 }
      else none }

def branchOf (b : List Byte) : BranchValues :=
  { rxLoss := wordAt b 1, threshold := if intAt b 3 = -32768 then none else some (intAt b 3), slope := intAt b 5,
    shift := byteAt b 7, dwell := byteAt b 8, table := tableAt b 9 }

def timingOf (b : List Byte) : TimingValues := { holdTime := wordAt b 0, suspLimit := longAt b 2 }

def testOf (b : List Byte) : TestValues :=
  { percent := byteAt b 0, windowBelow := wordAt b 1, windowAbove := wordAt b 3, minXpd := wordAt b 5,
    maxDiff := wordAt b 7, errored := longAt b 9, severe := longAt b 13, outage := longAt b 17, minFade := wordAt b 21,
    maxBelow := longAt b 23, maxEvents := wordAt b 27 }

/-- One visited section taken: a later one of its kind or branch replaces an earlier one whole (R188). -/
def Sections.takeOne (v : Sections) (x : Section) : Sections :=
  match x.kind with
  | 1 => { v with link := some (linkOf x.body) }
  | 2 => match Branch.ofNum (byteAt x.body 0) with
    | some b => { v with branch := v.branch.set b (some (branchOf x.body)) }
    | Option.none => v
  | 3 => { v with windows := some (windowsOf x.body) }
  | 4 => { v with timing := some (timingOf x.body) }
  | 5 => { v with test := some (testOf x.body) }
  | _ => v

def sectionsOf (xs : List Section) : Sections := xs.foldl Sections.takeOne .none

/-! ## A branch switched OFF or ACTIVE (R3, R4) -/

/-- An ACTIVE branch goes OFF (R4): the BLU, then the PTU, the CHU and the PCU, and the report to the PLE. R4 does not
order the four (DESIGN CHOICE, log 79). -/
def State.branchOff (s : State) (b : Branch) : State :=
  let s := s.setBranchRec b { s.branch b with active := false, seed := none }
  let s := (s.pointLoss b).channelsLose b
  (s.setPcu { s.pcu with out := s.pcu.out.set b none }).report (.branchOff b)

/-- A fitted branch goes ACTIVE unseeded (R3). -/
def State.branchOn (s : State) (b : Branch) : State :=
  let s := s.setBranchRec b { s.branch b with active := true, seed := none }
  if b = s.ptu.pointing then s.driveAlignment false else s

/-! ## Application (R18, R192) -/

/-- The BLU takes a branch's values and changes its state (R18, R19). -/
def State.applyBranch (s : State) (b : Branch) : State :=
  let r := s.branch b
  let v := s.pfl.branch b
  let fits := s.pfl.link.fitted.get b
  let s := s.setBranchRec b { r with
    fitted := fits, table := v.table, slope := v.slope, shift := v.shift,
    origin := if (s.pfl.active.branch.get b).isSome then .profile else .default }
  if fits then if r.fitted then s else s.setBranchRec b { s.branch b with active := true, seed := none }
  else if r.active then s.branchOff b else s

/-- PROFILE_STATUS's fields that the notice carries too (R196). -/
def Pfl.statusFields (p : Pfl) : List Field :=
  [.u 1 (ProfileStatus.num p.status)] ++ optU 2 (p.crc.map BitVec.toNat) ++
    optU 1 (p.rejection.map fun r => RejectReason.num r.reason) ++ optU 2 (p.rejection.bind Rejection.offset)

/-- The active profile becomes the given sections, and each block takes its parts (R192). R192 gives the blocks no
order (DESIGN CHOICE, log 79), and R18 none to several branches that leave the fitted set: they go OFF from branch 0 to
branch 3, each with its notices (DESIGN CHOICE, log 73). -/
def State.applyProfile (s : State) (v : Sections) (first : Bool) : State :=
  let s := s.setPfl { s.pfl with active := v }
  let s := allBranches.foldl State.applyBranch s
  let s := (s.txProfile first).checkPairing
  if first then
    let s := s.compose
    s.setEtu { s.etu with gens := s.etu.gens.map fun g => { g with running := true } }
  else s

def State.postProfile (s : State) : State := s.post .profileStatus s.pfl.statusFields

/-- The first application (R191), with the status, the CRC and the rejection that the outcome of the read gives. -/
def State.startUp (s : State) (status : ProfileStatus) (crc : Option Check) (rejection : Option Rejection)
    (v : Sections) : State :=
  let s := s.setPfl { s.pfl with status := status, crc := crc, rejection := rejection }
  (s.applyProfile v true).postProfile

/-- PROFILE_STATUS (R196). The epoch, SET with an offset or UNSET (R187), is a field that may be absent: UNSET is a presence
byte 0 and four zero bytes (DESIGN CHOICE, log 92). -/
def State.profileFields (s : State) : List Field :=
  let p := s.pfl
  let v := p.active
  p.statusFields ++
    [.u 1 p.straps.endSel.toNat, .u 1 p.straps.iptMode.toNat, .u 1 p.straps.iptAddr.toNat] ++
    optU 4 (p.epoch.map BitVec.toNat) ++ [.u 4 s.clock.sec, .u 4 s.recTime.value] ++
    [yes v.link.isSome, yes (allBranches.any fun b => (v.branch.get b).isSome), yes v.windows.isSome,
     yes v.timing.isSome, yes v.test.isSome]

/-! ## LOAD_PROFILE (R193) -/

/-- Whether a PROFILE_CHANGED entry follows an application (R166). -/
def Acr.notesProfile (a : Acr) : Bool := a.state == .opened && !a.entries.isEmpty

def State.loadImage (s : State) (img : List Byte) : State × Reply :=
  if s.ple.state = .running ∨ s.ple.state = .paused ∨ s.ple.state = .suspended ∨ s.ple.state = .halted then
    refuse .wrongState s
  else match judgeImage img with
    | .error r =>
      (s.setPfl { s.pfl with rejection := some r },
        { status := .badProfile, payload := .u 1 (RejectReason.num r.reason) :: optU 2 r.offset })
    | .ok xs =>
      if s.acr.notesProfile && !s.acr.storable then refuse .noSpace s
      else
        let c := imageCrc img
        let s := (s.setPfl { s.pfl with status := .port, crc := some c }).applyProfile (sectionsOf xs) false
        let n := if s.acr.notesProfile then some s.acr.next else none
        let s := if s.acr.notesProfile then
          s.append (s.plainEntry .profileChanged none none [digestItem .profileCrc (some c)]) else s
        (s.postProfile, { payload := .u 2 c.toNat :: optU 2 n })

end Sys2Proof.Machine
end

