-- ==== Sys2Proof/Machine/Link.lean ====
section
/-! DEFINITION. The events of the transmitter and of the modem (chapters 5 and 6). -/

namespace Sys2Proof.Machine

/-- SETTLE_REPORT (R88). -/
def execSettleReport (change : Nat) (s : State) : Host.Outcome State Fault Refusal := .next (react (s.settled change))

/-- SETTLE_TIMEOUT (R89), while the settle timer runs (log 8). -/
def execSettleTimeout (s : State) : Host.Outcome State Fault Refusal :=
  .next (react (if s.tma.timer.isSome then s.txFault else s))

/-- COMPOSITION (R98), while the composition timer runs (log 8). -/
def execComposition (s : State) : Host.Outcome State Fault Refusal :=
  .next (if s.pcu.compTimer.isSome then s.compose else s)

/-- A delivered frame: discarded where it is invalid or its phase is not new, else taken, and its handover fields with
it (R100, R101, R168). -/
def State.hearFrame (s : State) (bytes : List Byte) : State :=
  match PeerFrame.parse bytes with
  | some f => if s.pcu.fresh f then (s.takeFrame f).takeHandover f else s
  | none => s

/-- PEER_FRAME (R100). -/
def execPeerFrame (bytes : List Byte) (s : State) : Host.Outcome State Fault Refusal := .next (react (s.hearFrame bytes))

/-- SILENCE_EXPIRY (R102), while the silence timer runs (log 8). -/
def execSilenceExpiry (s : State) : Host.Outcome State Fault Refusal :=
  .next (react (if s.pcu.silence.isSome then s.peerSilent else s))

/-- HOLD_EXPIRY (R114), while the hold timer runs (log 8). -/
def execHoldExpiry (s : State) : Host.Outcome State Fault Refusal :=
  .next (react (if s.pcu.hold.isSome then s.holdExpired else s))

end Sys2Proof.Machine
end

