-- ==== Sys2Proof/Machine/PlanTimers.lean ====
section
/-! DEFINITION. The expiries of the Plan Engine's timers (R129, R131, R132, R152). -/

namespace Sys2Proof.Machine

/-- An act on the step in progress of a RUNNING plan in a phase, by the PLE itself (log 22). -/
def State.inPhase (s : State) (phase : StepPhase) (act : State → Step → StepCtx → State) : State :=
  match s.current, s.ple.ctx with
  | some x, some c => if s.ple.state = .running ∧ c.phase = phase then s.hush fun s => act s x c else s
  | _, _ => s

/-- The cause of a prepare limit's expiry (R129). -/
def State.prepareCause (s : State) (x : Step) (c : StepCtx) : Cause :=
  if !s.farCondition x c && s.pcu.peer != .paired then .peerLoss else .remoteMode

/-- PREPARE_LIMIT_EXPIRY (R129), while the phase timer runs (log 8). -/
def execPrepareLimitExpiry (s : State) : Host.Outcome State Fault Refusal :=
  .next (react (s.inPhase .prepare fun s x c =>
    if c.phaseTimer.isSome then s.suspend x c (s.prepareCause x c) none else s))

/-- SETTLE_LIMIT_EXPIRY (R131), while the phase timer runs (log 8). -/
def execSettleLimitExpiry (s : State) : Host.Outcome State Fault Refusal :=
  .next (react (s.inPhase .settle fun s x c =>
    if c.phaseTimer.isSome then
      s.conclude x c { verdict := .fail, reason := some .settle, items := s.settleItems x } .byVerdict
    else s))

/-- MEASURE_EXPIRY (R132), while the measure timer runs (log 8). -/
def execMeasureExpiry (s : State) : Host.Outcome State Fault Refusal :=
  .next (react (s.inPhase .measure fun s x c => if c.measureTimer.isSome then s.measureSecond x c else s))

/-- The result of a step that a command or the limit ends while it is suspended (R151, R152). -/
def SuspRec.result (r : SuspRec) (c : StepCtx) : Result :=
  { verdict := .aborted, reason := some (.cause r.primary), items := [elapsedItem c.elapsed] }

/-- The suspended step concludes as ABORTED (R151, R152). -/
def State.abandon (s : State) (after : After) : State :=
  match s.current, s.ple.ctx, s.ple.susp with
  | some x, some c, some r => s.hush fun s => s.conclude x c (r.result c) after
  | _, _, _ => s

/-- SUSPENSION_LIMIT_EXPIRY (R152), while the limit timer runs (log 8). -/
def execSuspensionLimitExpiry (s : State) : Host.Outcome State Fault Refusal :=
  .next (react (if s.ple.state = .suspended ∧ s.ple.limitTimer.isSome then s.abandon .limit else s))

end Sys2Proof.Machine
end

