-- ==== Sys2Proof/Machine/PortEvents.lean ====
section
/-! DEFINITION. The events of the two ports: the presence line (R182), reads, frames sent and acknowledges (R175, R176),
and a request the part does not know (R177). -/

namespace Sys2Proof.Machine

/-! ## Presence (R182) -/

/-- What the other blocks tear down at presence loss (R182), and the report to the PLE (R146). R182 gives the actions no
fixed order (DESIGN CHOICE, log 79). -/
def State.dropInstaller (s : State) : State :=
  let s := ((s.setInstSlot none).tearDown .installer).closeStreamOf .installer
  ((s.dropTest .installer .ownerLost).tearDownTurn .installer).report .presenceLoss

/-- The installer port is emptied, with the mask none, and the presence state set (R182). -/
def State.setPresent (s : State) (present : Bool) : State :=
  (s.setPif { s.pif with present := present }).setPort .installer (.reset 0)

/-- PRESENCE_LOSS (R182): the change from attached to detached. -/
def execPresenceLoss (s : State) : Host.Outcome State Fault Refusal :=
  .next (react (if s.pif.present then (s.setPresent false).dropInstaller else s))

/-- PRESENCE_ATTACH (R182): the change from detached to attached. -/
def execPresenceAttach (s : State) : Host.Outcome State Fault Refusal :=
  .next (if s.pif.present then s else s.setPresent true)

/-! ## Reads (R175, R176) -/

/-- What a read puts out while nothing waits. -/
def State.putNotReady (s : State) (p : Port) : State := s.setPort p { s.port p with out := .notReady }

/-- A frame of a kind is sent in part: it must be sent again from its start (R175). -/
def State.sendPart (s : State) (p : Port) (k : FrameKind) (f : OutFrame) : State :=
  s.setPort p { (s.port p).begin k with out := .frame f false }

/-- A read of so many bytes, READY or NOT_READY first: what it sends, and whether it delivers (R175, log 39). -/
def State.readPort (s : State) (p : Port) (clocked : Nat) : State :=
  match (s.port p).toSend with
  | none => if clocked = 0 then s else s.putNotReady p
  | some k =>
    match (s.port p).content k with
    | none => if clocked = 0 then s else s.putNotReady p
    | some f =>
      if f.size < clocked then s.deliver p k f else if 2 ≤ clocked then s.sendPart p k f else s

/-- UNIT_PORT_READ (R175). -/
def execUnitPortRead (clocked : Nat) (s : State) : Host.Outcome State Fault Refusal := .next (s.readPort .unit clocked)

/-- The head notice of the installer port is sent, whole or in part, and awaits its acknowledge (R176, R181). -/
def State.showNotice (s : State) (n : OutFrame) (whole : Bool) : State :=
  let r := s.port .installer
  s.setPort .installer { r with headBegun := true, out := .frame n whole }

/-- A mode 1 read: as on the unit port, apart from notices, which only their acknowledge delivers (R176, log 18). -/
def State.readBus (s : State) (count : Nat) : State :=
  let r := s.port .installer
  if r.toSend = some .notice then
    match r.content .notice with
    | some f => if 2 ≤ count then s.showNotice f (decide (f.size < count)) else s
    | none => s
  else s.readPort .installer count

/-- INSTALLER_BUS_READ (R176): on mode 1, while a meter is attached. -/
def execInstallerBusRead (count : Nat) (s : State) : Host.Outcome State Fault Refusal :=
  .next (if s.pif.present ∧ s.iptMode = 1 then s.readBus count else s)

/-- The notice at the head of the installer queue is delivered (R176), and overflow pending ends with it (R181). An overflow
since the notice was last shown ends so too, although the bytes shown carried no OVERFLOW, and the notice is recorded as
put out with it (DESIGN CHOICE, log 91). -/
def State.acknowledge (s : State) : State :=
  match (s.port .installer).content .notice with
  | some f => s.deliver .installer .notice f
  | none => s

/-- NOTICE_ACKNOWLEDGE (R176): on mode 1, while a meter is attached. -/
def execNoticeAcknowledge (s : State) : Host.Outcome State Fault Refusal :=
  .next (if s.pif.present ∧ s.iptMode = 1 then s.acknowledge else s)

/-- The last byte of the frame in transmission is sent (R176). -/
def State.finishFrame (s : State) : State :=
  let r := s.port .installer
  match r.begun with
  | some k => match r.content k with
    | some f => s.deliver .installer k f
    | none => s
  | none => s

/-- INSTALLER_FRAME_SENT (R176): on modes 0 and 2, while a meter is attached. -/
def execInstallerFrameSent (s : State) : Host.Outcome State Fault Refusal :=
  .next (if s.pif.present ∧ s.unprompted then s.finishFrame else s)

/-! ## Incomplete frames (R176) and unknown requests (R177) -/

/-- FRAME_GAP_TIMEOUT (R176, mode 0): the incomplete frame is discarded without an answer. That it had begun says that
nothing is disregarded any more, as its start byte ended that (R177). -/
def execFrameGapTimeout (s : State) : Host.Outcome State Fault Refusal :=
  .next (if s.pif.present ∧ s.iptMode = 0 then s.endResync .installer else s)

/-- FRAME_RESTART_DISCARD (R176, mode 2): the incomplete frame is discarded without an answer; its first word ends what
the receiver disregards (R177). -/
def execFrameRestartDiscard (s : State) : Host.Outcome State Fault Refusal :=
  .next (if s.pif.present ∧ s.iptMode = 2 then s.endResync .installer else s)

/-- UNKNOWN_REQUEST (R177, check 4): R179 gives no layout to an unknown code, so only the lengths are checked first. -/
def execUnknownRequest (f : ReqFrame) (code : Nat) (s : State) : Host.Outcome State Fault Refusal :=
  .next (s.arrive f code true (refuse .unknownCommand))

end Sys2Proof.Machine
end

