-- ==== Sys2Proof/Machine/Samples.lean ====
section
/-! DEFINITION. The events of the receivers, the channels and the checkers (chapters 1 to 4). -/

namespace Sys2Proof.Machine

/-- A sample of an ACTIVE branch is taken whole: conversion, smoothing, the PTU, the outgoing level, the PLE (R5, R16). -/
def State.takeSample (s : State) (b : Branch) (code : Nat) (lock : Bool) : State :=
  let r := s.branch b
  let x := s.convert r code lock
  let s := (s.setBranchRec b { r with seed := some x }).pointSample b x r.seed.isNone
  (s.setPcu { s.pcu with out := s.pcu.out.set b (some (x.smoothed, x.flags)) }).report (.sample b)

/-- DETECTOR_SAMPLE (R5): a branch that is not ACTIVE discards it. -/
def execDetectorSample (b : Branch) (code : Nat) (lock : Bool) (s : State) : Host.Outcome State Fault Refusal :=
  .next (react (if (s.branch b).active then s.takeSample b code lock else s))

/-- DOUBLE_BURST_END (R39): the cadence's output resumes. -/
def execDoubleBurstEnd (s : State) : Host.Outcome State Fault Refusal :=
  .next (s.setPtu { s.ptu with burst := none })

/-- The freshness timer's expiry (R11). -/
def State.goStale (s : State) : State :=
  s.setBlu { s.blu with temp := { s.blu.temp with status := .stale, timer := none } }

/-- FRESHNESS_EXPIRY (R11), while its timer runs (log 8). -/
def execFreshnessExpiry (s : State) : Host.Outcome State Fault Refusal :=
  .next (if s.blu.temp.timer.isSome then s.goStale else s)

/-- INTERVAL_EXPIRY (R50), while the channel's timer runs (log 8). -/
def execIntervalExpiry (c : Fin 8) (s : State) : Host.Outcome State Fault Refusal := .next (s.channelExpiry c)

/-- A checker takes a block (R68 to R70). -/
def State.checkBlock (s : State) (p : Pol) (bits : BitVec 2048) : State :=
  s.setCount p ((s.count p).takeBlock bits (s.etu.test.state == .running && s.etu.tested p))

/-- TEST_BLOCK (R68). -/
def execTestBlock (p : Pol) (bits : BitVec 2048) (s : State) : Host.Outcome State Fault Refusal :=
  .next (s.checkBlock p bits)

/-- TEST_INTERVAL_EXPIRY (R73), while the interval timer runs (log 8). -/
def execTestIntervalExpiry (s : State) : Host.Outcome State Fault Refusal :=
  .next (react (if s.etu.test.timer.isSome then s.testExpiry else s))

end Sys2Proof.Machine
end

