-- ==== Sys2Proof/Machine/Startup.lean ====
section
/-! DEFINITION. Power-on, the outcomes of the configuration memory's read (R191) and the part reset (R180). -/

namespace Sys2Proof.Machine

/-- POWER_ON (R191): every block takes its power-on values. What waits outside the part, and the free values already
drawn, are not the part's. -/
def execPowerOn (straps : Straps) (attached : Bool) (s : State) : Host.Outcome State Fault Refusal :=
  .next (((State.powerOn straps attached).setPending s.pending).setDraws s.draws)

/-- An outcome of the memory's read: it is taken only while the read is going on (log 11). -/
def State.whileReading (s : State) (act : State → State) : State := if s.pfl.status = .reading then act s else s

/-- The default profile is applied in place of an image that was rejected (R191). -/
def State.startBad (s : State) (r : Rejection) : State := s.startUp .bad none (some r) .none

/-- The whole image was read: it is applied, or the defaults are (R191). -/
def State.startImage (s : State) (image : List Byte) : State :=
  match judgeImage image with
  | .ok xs => s.startUp .memory (some (imageCrc image)) none (sectionsOf xs)
  | .error r => s.startBad r

/-- PROFILE_READ_COMPLETE (R191). -/
def execProfileReadComplete (image : List Byte) (s : State) : Host.Outcome State Fault Refusal :=
  .next (react (s.whileReading fun s => s.startImage image))

/-- MEMORY_HEADER_REJECT (R191): the header fails condition 1 or 2 of R190; one that passes both is no such event. -/
def execMemoryHeaderReject (header : List Byte) (s : State) : Host.Outcome State Fault Refusal :=
  .next (react (s.whileReading fun s =>
    match headerFault header with
    | some r => s.startBad r
    | none => s))

/-- MEMORY_NO_ANSWER (R191). -/
def execMemoryNoAnswer (s : State) : Host.Outcome State Fault Refusal :=
  .next (react (s.whileReading fun s => s.startUp .default none none .none))

/-- MEMORY_STALL (R191). -/
def execMemoryStall (s : State) : Host.Outcome State Fault Refusal :=
  .next (react (s.whileReading fun s => s.startBad { reason := .incomplete, offset := none }))

/-! ## Part reset (R180) -/

/-- The BLU's part reset (R20): every branch becomes unseeded. -/
def Blu.partReset (x : Blu) : Blu := { x with branches := x.branches.map fun r => { r with seed := none } }

/-- The ETU's part reset (R83): the generators restart their sequence and run on. -/
def Etu.partReset (x : Etu) : Etu :=
  { Etu.powerOn false with
    gens := x.gens.map fun g => { g with reg := BitVec.allOnes 15, delivered := [] } }

/-- The PLE's part reset (R126): as a plan reset, and CLOSED while the record is. -/
def Ple.partReset (x : Ple) (closed : Bool) : Ple :=
  { x.cleared with state := if closed then .closed else x.rest }

/-- Every block performs its part reset; the notices that their changes would post are emptied with the queues (R180). -/
def State.partReset (s : State) : State :=
  let s := ((s.setBlu s.blu.partReset).setChu .powerOn).setEtu s.etu.partReset
  let s := ((s.pcuReset.setPle (s.ple.partReset (s.acr.state == .closed))).acrReset.1).txReset
  ((s.setPtu .powerOn).setPif (.reset s.pif.present)).setReports []

/-- PART_RESET (R180), due once RESET_PART's response has been delivered (log 12). -/
def execPartReset (s : State) : Host.Outcome State Fault Refusal :=
  .next (if s.pif.resetDue then s.partReset else s)

end Sys2Proof.Machine
end

