-- ==== Sys2Proof/Machine/Clock.lean ====
section
/-! DEFINITION. One millisecond: what a step does while no command waits (log 7). The counters advance (R195), the
running timers come one millisecond nearer to their end, the generators run on (R67), and what has run out is taken in
the order of log 10, by the meanings of the expiries themselves. -/

namespace Sys2Proof.Machine

/-! ## The counters and the timers -/

/-- The millisecond and seconds counters, each 32 bits wide (R195, log 29). -/
def Clock.tick (c : Clock) : Clock :=
  let ms := (c.ms + 1) % 2 ^ 32
  if c.sub < 999 then { c with ms := ms, sub := c.sub + 1 }
  else { ms := ms, sec := (c.sec + 1) % 2 ^ 32, sub := 0 }

/-- A running timer one millisecond on. -/
def lapse (t : Timer) : Timer := t.map (· - 1)

def Blu.tick (x : Blu) : Blu := { x with temp := { x.temp with timer := lapse x.temp.timer } }

/-- The cadence's own timing runs on beneath a double burst (R39); every cadence's period divides a second. -/
def Ptu.tick (x : Ptu) : Ptu :=
  { x with cadencePhase := (x.cadencePhase + 1) % 1000, burst := lapse x.burst }

def Chu.tick (x : Chu) : Chu :=
  { x with channels := x.channels.map fun c => c.map fun r => { r with timer := lapse r.timer } }

/-- A generator delivers so many blocks to the modem's pattern path (R67, log 24). -/
def Generator.run (g : Generator) (blocks : Nat) : Generator :=
  if g.running then
    let x := emitBlocks blocks g.reg
    { g with reg := x.2, delivered := x.1 }
  else g

def Etu.tick (x : Etu) (ms : Nat) : Etu :=
  { x with
    test := { x.test with timer := lapse x.test.timer },
    gens := { h := x.gens.h.run (Config.patternBlocks ms .h), v := x.gens.v.run (Config.patternBlocks ms .v) } }

def Tma.tick (x : Tma) : Tma := { x with timer := lapse x.timer }

def Pcu.tick (x : Pcu) : Pcu :=
  { x with compTimer := lapse x.compTimer, silence := lapse x.silence, hold := lapse x.hold }

def StepCtx.tick (c : StepCtx) : StepCtx :=
  { c with phaseTimer := lapse c.phaseTimer, measureTimer := lapse c.measureTimer }

def Ple.tick (x : Ple) : Ple := { x with ctx := x.ctx.map StepCtx.tick, limitTimer := lapse x.limitTimer }

/-- Every counter and timer one millisecond on. -/
def State.advance (s : State) : State :=
  { s with
    blu := s.blu.tick, ptu := s.ptu.tick, chu := s.chu.tick, etu := s.etu.tick s.clock.ms, tma := s.tma.tick,
    pcu := s.pcu.tick, ple := s.ple.tick, clock := s.clock.tick }

/-! ## The expiries of a millisecond -/

/-- The state an outcome leaves; a stop leaves the state before it. -/
def after (s : State) : Host.Outcome State Fault Refusal → State
  | .next t => t
  | .fault _ | .refused _ => s

/-- An expiry is taken where it is due. -/
def State.fire (s : State) (due : Bool) (act : State → Host.Outcome State Fault Refusal) : State :=
  if due then after s (act s) else s

/-- A timer that has run out. -/
def ranOut (t : Timer) : Bool := t == some 0

def State.channelDue (s : State) (c : Fin 8) : Bool := ranOut ((s.channel c).bind ChanRec.timer)

def State.phaseDue (s : State) (p : StepPhase) : Bool :=
  match s.ple.ctx with
  | some c => ranOut c.phaseTimer && c.phase == p
  | none => false

/-- The expiries in the order of the opcode table (log 10). -/
def State.expire (s : State) : State :=
  let s := s.fire (ranOut s.ptu.burst) execDoubleBurstEnd
  let s := s.fire (ranOut s.blu.temp.timer) execFreshnessExpiry
  let s := allChannels.foldl (fun s c => s.fire (s.channelDue c) (execIntervalExpiry c)) s
  let s := s.fire (ranOut s.etu.test.timer) execTestIntervalExpiry
  let s := s.fire (ranOut s.tma.timer) execSettleTimeout
  let s := s.fire (ranOut s.pcu.compTimer) execComposition
  let s := s.fire (ranOut s.pcu.silence) execSilenceExpiry
  let s := s.fire (ranOut s.pcu.hold) execHoldExpiry
  let s := s.fire (s.phaseDue .prepare) execPrepareLimitExpiry
  let s := s.fire (s.phaseDue .settle) execSettleLimitExpiry
  let s := s.fire (ranOut (s.ple.ctx.bind StepCtx.measureTimer)) execMeasureExpiry
  let s := s.fire (ranOut s.ple.limitTimer) execSuspensionLimitExpiry
  s.fire s.pif.resetDue execPartReset

/-- One millisecond with no command waiting. -/
def State.tick (s : State) : State := s.advance.expire

end Sys2Proof.Machine
end

