-- ==== Sys2Proof/Machine/BranchRequests.lean ====
section
/-! DEFINITION. The requests of the BLU and the PTU that change state: SET_BRANCH, SET_TEMPERATURE (chapter 1),
RESET_PEAK and SET_POINTING (chapter 2). -/

namespace Sys2Proof.Machine

/-- A branch number that names a fitted branch (R3, R31, R36). -/
def State.fittedBranch (s : State) (n : Nat) : Option Branch :=
  (Branch.ofNum n).filter fun b => (s.branch b).fitted

/-- RESET_PEAK's effect: the value 4 is ALL, every fitted branch (R31, log 14). -/
def State.resetPeaks (s : State) (target : Nat) : State × Reply :=
  if target = 4 then take ((allBranches.filter fun b => (s.branch b).fitted).foldl State.emptyPeak s)
  else match s.fittedBranch target with
    | some b => take (s.emptyPeak b)
    | none => refuse .badArgument s

/-- RESET_PEAK (R31). -/
def execResetPeak (f : ReqFrame) (target : Nat) (s : State) : Host.Outcome State Fault Refusal :=
  .next (s.serve f 0x0F (unlessClosed f fun s => s.resetPeaks target))

def State.choosePointing (s : State) (branch : Nat) : State × Reply :=
  match s.fittedBranch branch with
  | some b => take (s.pointAt b)
  | none => refuse .badArgument s

/-- SET_POINTING (R36). -/
def execSetPointing (f : ReqFrame) (branch : Nat) (s : State) : Host.Outcome State Fault Refusal :=
  .next (s.serve f 0x10 (unlessClosed f fun s => s.choosePointing branch))

/-- SET_BRANCH's effect on a fitted branch: the states are OFF and ACTIVE in that order (R1, R3). -/
def State.switchBranch (s : State) (b : Branch) (active : Bool) : State :=
  if (s.branch b).active = active then s else if active then s.branchOn b else s.branchOff b

def State.setBranchTo (s : State) (branch state : Nat) : State × Reply :=
  match s.fittedBranch branch, bitOf state with
  | some b, some active => (s.switchBranch b active, { payload := [.u 1 active.toNat] })
  | _, _ => refuse .badArgument s

/-- SET_BRANCH (R3). -/
def execSetBranch (f : ReqFrame) (branch state : Nat) (s : State) : Host.Outcome State Fault Refusal :=
  .next (react (s.serveUnit f 0x31 (ifCoded f fun s => s.setBranchTo branch state)))

/-- SET_TEMPERATURE's effect (R10). R178 gives no width to a temperature: the held one is told as a signed 16-bit number
(log 53). -/
def State.holdTemperature (s : State) (celsius : Int) : State × Reply :=
  let held := clampInt (-55) 125 celsius
  (s.setBlu { s.blu with temp := { held := held, status := .fresh, timer := some 60000 } },
    { clamped := held != celsius, payload := [.s 2 held] })

/-- SET_TEMPERATURE (R10). -/
def execSetTemperature (f : ReqFrame) (celsius : Int) (s : State) : Host.Outcome State Fault Refusal :=
  .next (s.serveUnit f 0x32 (ifCoded f fun s => s.holdTemperature celsius))

end Sys2Proof.Machine
end

