-- ==== Sys2Proof/Machine/ChannelRequests.lean ====
section
/-! DEFINITION. The requests of the CHU and the ETU: BIND to LEAVE (chapter 3), START_TEST and STOP_TEST (chapter 4). -/

namespace Sys2Proof.Machine

/-! ## BIND (R43, R47) -/

/-- The interval of a BIND with whether it was clamped: an ERR_INTERVAL channel's is 1,000 (R47, step 3). -/
def bindInterval (q : Quantity) (interval : Nat) : Nat × Bool :=
  if q.isErrInterval then (1000, false) else clampTo 1 60000 interval

/-- The page sizes and counts of R47, step 2. -/
def pageShapeOk (size count : Nat) : Bool :=
  (size == 8 || size == 16 || size == 32 || size == 64) && decide (1 ≤ count) && decide (count ≤ 31)

/-- Step 2 of R47: the shape of a BIND whose arguments stand, with whether its interval was clamped. -/
def State.bindShape (s : State) (a : BindArgs) : Option (Shape × Bool) := do
  let q ← Quantity.ofArgs a.quantity a.source a.scale
  let policy ← Policy.ofNum a.policy
  let hold ← yesNoOf a.hold
  if s.sourceFits q && pageShapeOk a.pageSize a.pageCount then
    let i := bindInterval q a.interval
    some ({ quantity := q, interval := i.1, budget := if a.budget < 16777215 then some a.budget else none,
            pageSize := a.pageSize, pageCount := a.pageCount, policy := policy, hold := hold }, i.2)
  else none

/-- A BIND of a FREE channel from a port (R47). One whose interval step 3 clamped and step 4 refuses is answered NO_SPACE
with CLAMPED (R178; DEDUCED, log 65). -/
def State.bindFree (s : State) (p : Port) (c : Fin 8) (a : BindArgs) : State × Reply :=
  match s.bindShape a with
  | none => refuse .badArgument s
  | some x =>
    match s.bindChannel c (Port.party p) x.1 with
    | none => (s, { status := .noSpace, clamped := x.2 })
    | some r => (r.1, { clamped := x.2, payload := [.u 2 r.2] })

def State.bindFrom (s : State) (p : Port) (a : BindArgs) : State × Reply :=
  match channelOf a.channel with
  | none => refuse .badArgument s
  | some c => match s.channel c with
    | some r => if ownedFrom p r.owner false then refuse .owned s else refuse .wrongState s
    | none => s.bindFree p c a

/-- Whether the bytes for which R47 gives no status of their own lie in their sets (R178, log 57). -/
def bindCoded (a : BindArgs) : Bool := (yesNoOf a.hold).isSome && scaleOk a.quantity a.scale

/-- BIND (R47), after the check of R178. -/
def execBind (f : ReqFrame) (args : BindArgs) (s : State) : Host.Outcome State Fault Refusal :=
  .next (s.serve f 0x11 (unlessClosed f fun s =>
    if bindCoded args then s.bindFrom f.port args else refuse .badArgument s))

/-! ## The run of a channel -/

/-- RUN (R49). -/
def execRun (f : ReqFrame) (channel : Nat) (s : State) : Host.Outcome State Fault Refusal :=
  .next (s.serve f 0x12 (onChannel f channel false fun c r s => asReply (s.runChannel c r)))

/-- HALT (R54). -/
def execHalt (f : ReqFrame) (channel : Nat) (s : State) : Host.Outcome State Fault Refusal :=
  .next (s.serve f 0x13 (onChannel f channel false fun c _ s => asReply (s.haltChannel c .command)))

/-- RESUME (R55). -/
def execResume (f : ReqFrame) (channel : Nat) (s : State) : Host.Outcome State Fault Refusal :=
  .next (s.serve f 0x14 (onChannel f channel false fun c r s => asReply (s.resumeChannel c r)))

/-- FLUSH (R56). -/
def execFlush (f : ReqFrame) (channel : Nat) (s : State) : Host.Outcome State Fault Refusal :=
  .next (s.serve f 0x15 (onChannel f channel false fun c r s => take (s.flushChannel c r)))

/-- UNBIND (R57). -/
def execUnbind (f : ReqFrame) (channel : Nat) (s : State) : Host.Outcome State Fault Refusal :=
  .next (s.serve f 0x16 (onChannel f channel false fun c _ s => take (s.freeChannel c .command)))

/-! ## Streams (R59, R60) -/

/-- OPEN_STREAM's effect: an omitted quantum is 2, and an open stream keeps all but its quantum (R59). -/
def State.openStream (s : State) (p : Port) (quantum : Option Nat) : State × Reply :=
  let asked := quantum.getD 2
  let q := clampNat 1 8 asked
  let x : StreamRec := match s.stream p with
    | some x => { x with quantum := q }
    | none => { quantum := q, current := none, run := 0 }
  (s.setStream p (some x), { clamped := q != asked })

/-- OPEN_STREAM (R59). -/
def execOpenStream (f : ReqFrame) (quantum : Option Nat) (s : State) : Host.Outcome State Fault Refusal :=
  .next (s.serve f 0x17 (unlessClosed f fun s => s.openStream f.port quantum))

/-- CLOSE_STREAM (R59). -/
def execCloseStream (f : ReqFrame) (s : State) : Host.Outcome State Fault Refusal :=
  .next (s.serve f 0x18 (unlessClosed f fun s =>
    if (s.stream f.port).isNone then refuse .wrongState s else take (s.closeStreamOf f.port)))

/-- JOIN (R60): a channel of the plan may be joined. -/
def execJoin (f : ReqFrame) (channel : Nat) (s : State) : Host.Outcome State Fault Refusal :=
  .next (s.serve f 0x19 (onChannel f channel true fun c _ s =>
    if (s.stream f.port).isNone then refuse .wrongState s else take (s.setMember c (some f.port))))

/-- LEAVE (R60). -/
def execLeave (f : ReqFrame) (channel : Nat) (s : State) : Host.Outcome State Fault Refusal :=
  .next (s.serve f 0x1A (onChannel f channel true fun c r s =>
    if r.stream = some f.port then take (s.setMember c none) else refuse .notFound s))

/-! ## Tests (R77, R80) -/

/-- R77, check 2: the test is another party's. -/
def State.testOwned (s : State) (p : Port) : Bool :=
  s.etu.test.owner == some .plan || (p == .installer && s.etu.test.active && s.etu.test.owner == some .unit)

/-- START_TEST after its CLOSED check (R77). -/
def State.startTestFrom (s : State) (p : Port) (pols duration : Nat) (severe : Option Nat) : State × Reply :=
  if s.testOwned p then refuse .owned s
  else if s.etu.test.active then refuse .wrongState s
  else match Pols.ofNum pols with
    | none => refuse .badArgument s
    | some x =>
      let d := clampNat 1 259200 duration
      let n := clampNat 1 100 (severe.getD s.pfl.test.percent)
      (s.beginTest (Port.party p) { pols := x, duration := d, severe := n },
        { clamped := d != duration || (severe.any fun k => n != k) })

/-- START_TEST (R77). -/
def execStartTest (f : ReqFrame) (pols duration : Nat) (severe : Option Nat) (s : State) :
    Host.Outcome State Fault Refusal :=
  .next (s.serve f 0x1B (unlessClosed f fun s => s.startTestFrom f.port pols duration severe))

/-- STOP_TEST after its CLOSED check (R80). -/
def State.stopTestFrom (s : State) (p : Port) : State × Reply :=
  if s.etu.test.owner = some .plan ∨ (p = .installer ∧ s.etu.test.owner = some .unit) then refuse .owned s
  else if s.etu.test.active then take (s.endTest .command)
  else refuse .wrongState s

/-- STOP_TEST (R80). -/
def execStopTest (f : ReqFrame) (s : State) : Host.Outcome State Fault Refusal :=
  .next (s.serve f 0x1C (unlessClosed f fun s => s.stopTestFrom f.port))

end Sys2Proof.Machine
end

