-- ==== Sys2Proof/Machine/LinkRequests.lean ====
section
/-! DEFINITION. The requests of the TMA (chapter 5) and of the PCU (chapter 6). -/

namespace Sys2Proof.Machine

/-! ## The INSTALLER slot (R92) -/

def State.fillInstaller (s : State) (mode : Nat) : State × Reply :=
  match RequestMode.ofNum mode with
  | none => refuse .badArgument s
  | some m =>
    let s := s.setInstSlot (some m)
    (s, s.slotReply)

/-- TX_REQUEST (R92). -/
def execTxRequest (f : ReqFrame) (mode : Nat) (s : State) : Host.Outcome State Fault Refusal :=
  .next (react (s.serve f 0x1D (unlessClosed f fun s => s.fillInstaller mode)))

def State.emptyInstaller (s : State) : State × Reply :=
  let s := s.setInstSlot none
  (s, s.slotReply)

/-- TX_RELEASE (R92). -/
def execTxRelease (f : ReqFrame) (s : State) : Host.Outcome State Fault Refusal :=
  .next (react (s.serve f 0x1E (unlessClosed f fun s => s.emptyInstaller)))

/-! ## Turns (R110, R111) -/

/-- TURN_REQUEST after its CLOSED check (R110). -/
def State.requestTurn (s : State) (p : Port) (mode : Nat) : State × Reply :=
  match RequestMode.ofNum mode with
  | none => refuse .badArgument s
  | some m =>
    let r := s.askTurn (Port.party p) m
    if r.2 = .ok then (r.1, { payload := [.u 1 (TurnState.num r.1.pcu.turn)] }) else refuse r.2 s

/-- TURN_REQUEST (R110). -/
def execTurnRequest (f : ReqFrame) (mode : Nat) (s : State) : Host.Outcome State Fault Refusal :=
  .next (react (s.serve f 0x1F (unlessClosed f fun s => s.requestTurn f.port mode)))

/-- TURN_RELEASE after its CLOSED check (R111). -/
def State.dropTurn (s : State) (p : Port) : State × Reply :=
  match s.pcu.req.requester with
  | none => refuse .wrongState s
  | some who => if releaseOwned who p then refuse .owned s else take s.releaseTurn

/-- TURN_RELEASE (R111). -/
def execTurnRelease (f : ReqFrame) (s : State) : Host.Outcome State Fault Refusal :=
  .next (react (s.serve f 0x20 (unlessClosed f fun s => s.dropTurn f.port)))

/-! ## Mute, power and fault (R90, R93, R94) -/

/-- SET_MUTE's effect: the mask's upper six bits are left 0 (R93, R178). -/
def State.muteTo (s : State) (mask : BitVec 8) : State × Reply :=
  if mask.toNat < 4 then
    let s := s.setMask (maskOf mask.toNat)
    (s, { payload := .u 1 (maskByte s.tma.mute) :: s.tma.driven.fields })
  else refuse .badArgument s

/-- SET_MUTE (R93). -/
def execSetMute (f : ReqFrame) (mask : BitVec 8) (s : State) : Host.Outcome State Fault Refusal :=
  .next (react (s.serveUnit f 0x33 (ifCoded f fun s => s.muteTo mask)))

/-- SET_TX_POWER's effect (R94). -/
def State.holdPower (s : State) (power : Int) : State × Reply :=
  let held := clampInt (-100) 350 power
  (s.setTma { s.tma with power := some held }, { clamped := held != power })

/-- SET_TX_POWER (R94). -/
def execSetTxPower (f : ReqFrame) (power : Int) (s : State) : Host.Outcome State Fault Refusal :=
  .next (s.serveUnit f 0x34 (ifCoded f fun s => s.holdPower power))

/-- CLEAR_TX_FAULT (R90). -/
def execClearTxFault (f : ReqFrame) (s : State) : Host.Outcome State Fault Refusal :=
  .next (react (s.serveUnit f 0x35 (ifCoded f fun s =>
    if s.tma.settle = .fault then take s.clearFault else refuse .wrongState s)))

end Sys2Proof.Machine
end

