-- ==== Sys2Proof/Machine/PlanRequests.lean ====
section
/-! DEFINITION. The requests of the PLE (chapters 7 and 8). What the PLE itself does to other blocks is not reported
back to it (log 22); a step that is to be entered is left as `todo`, which `react` performs. -/

namespace Sys2Proof.Machine

/-! ## The plan table (R122, R123) -/

/-- The plan states in which the table may be changed (R122, check 2). -/
def PlanState.editable : PlanState → Bool
  | .idle | .loaded | .complete => true
  | .running | .paused | .suspended | .halted | .closed => false

/-- The table with entries written from a start index on. -/
def writeSteps (table : List (Option Step)) (start : Nat) (xs : List Step) : List (Option Step) :=
  table.take start ++ xs.map some ++ table.drop (start + xs.length)

/-- The indices of the clamped entries, from a start index on. -/
def clampedFrom : Nat → List (Step × Bool) → List Nat
  | _, [] => []
  | i, x :: rest => if x.2 then i :: clampedFrom (i + 1) rest else clampedFrom (i + 1) rest

/-- The response to a taken LOAD_STEPS (R122, log 25). -/
def loadReply (clamped : List Nat) : Reply :=
  if clamped.isEmpty then {} else { clamped := true, payload := listOf (clamped.map fun i => [.u 1 i]) }

/-- LOAD_STEPS after its CLOSED check (R122). -/
def State.loadStepsAt (s : State) (start : Nat) (entries : List RawStep) : State × Reply :=
  if !s.ple.state.editable then refuse .wrongState s
  else if 31 < start ∨ 32 < start + entries.length then refuse .badArgument s
  else match s.stepsOf start entries with
    | .error i => (s, { status := .badArgument, payload := [.u 1 i] })
    | .ok xs =>
      let s := s.setPle { s.ple with table := writeSteps s.ple.table start (xs.map Prod.fst) }
      (if s.ple.state = .complete then s.movePlan .loaded .load else s, loadReply (clampedFrom start xs))

/-- LOAD_STEPS (R122): it carries one or more entries. -/
def execLoadSteps (f : ReqFrame) (start : Nat) (entries : List RawStep) (s : State) :
    Host.Outcome State Fault Refusal :=
  .next (s.arrive f 0x21 (f.fits && !entries.isEmpty) (unlessClosed f fun s => s.loadStepsAt start entries))

/-- SET_PLAN_LENGTH after its CLOSED check (R123). -/
def State.setLength (s : State) (length : Nat) : State × Reply :=
  if !s.ple.state.editable then refuse .wrongState s
  else if 32 < length ∨ (s.ple.table.take length).any Option.isNone then refuse .badArgument s
  else
    let s := s.setPle { s.ple with length := length }
    take (s.movePlanTo s.ple.rest .load)

/-- SET_PLAN_LENGTH (R123). -/
def execSetPlanLength (f : ReqFrame) (length : Nat) (s : State) : Host.Outcome State Fault Refusal :=
  .next (s.serve f 0x22 (unlessClosed f fun s => s.setLength length))

/-! ## Running and stopping (R124 to R126) -/

/-- RUN_PLAN after its CLOSED check (R124). -/
def State.runPlanAt (s : State) (start : Nat) : State × Reply :=
  if s.ple.state ≠ .loaded ∧ s.ple.state ≠ .complete then refuse .wrongState s
  else if s.ple.length ≤ start then refuse .badArgument s
  else match s.planFault with
    | some i => (s, { status := .badArgument, payload := [.u 1 i] })
    | none =>
      let s := s.setPle { s.ple with halt := none, pauseReq := false }
      take ((s.movePlan .running .run).setTodo (some (.start (s.firstStart start))))

/-- RUN_PLAN (R124). -/
def execRunPlan (f : ReqFrame) (start : Option Nat) (s : State) : Host.Outcome State Fault Refusal :=
  .next (react (s.serve f 0x23 (unlessClosed f fun s => s.runPlanAt (start.getD 0))))

/-- A step that STOP_PLAN ends: INCOMPLETE, with the ELAPSED item (R125, R170). -/
def State.stopStep (s : State) (x : Step) (c : StepCtx) : State × Bool :=
  let s := s.dropDigest
  let r : Result := { verdict := .incomplete, reason := some .stopped, items := [elapsedItem c.elapsed] }
  let d := s.recordOrDrop (s.stepEntry x c .stepResult r)
  ((d.1.release x c).postStepDone x c r d.2, d.2 == .discarded)

/-- What STOP_PLAN ends: the step in progress, or the pending result (R125, R165); the flag says it was discarded. -/
def State.stopPlan (s : State) : State × Bool :=
  match s.ple.state with
  | .running | .suspended => match s.current, s.ple.ctx with
    | some x, some c => ((s.hush fun s => (s.stopStep x c).1), (s.stopStep x c).2)
    | _, _ => (s, false)
  | .halted => s.storeHeld
  | .paused | .idle | .loaded | .complete | .closed => (s, false)

/-- The plan states in which STOP_PLAN is taken (R125). -/
def PlanState.stoppable : PlanState → Bool
  | .running | .paused | .suspended | .halted => true
  | .idle | .loaded | .complete | .closed => false

/-- STOP_PLAN (R125). -/
def execStopPlan (f : ReqFrame) (s : State) : Host.Outcome State Fault Refusal :=
  .next (s.serve f 0x24 (unlessClosed f fun s =>
    if s.ple.state.stoppable then
      let d := s.stopPlan
      ((d.1.setPle d.1.ple.cleared).movePlan .loaded .stop, { discarded := d.2 })
    else refuse .wrongState s))

/-- RESET_PLAN (R126): refused with CLOSED from either port. -/
def execResetPlan (f : ReqFrame) (s : State) : Host.Outcome State Fault Refusal :=
  .next (s.serve f 0x30 fun s =>
    if s.acr.state = .closed then refuse .closed s
    else if f.coded then (s.planReset.1, { discarded := s.planReset.2 })
    else refuse .badArgument s)

/-! ## Acceptances (R135, R154) -/

/-- The step in progress of a RUNNING plan, in MEASURE. -/
def State.measuring (s : State) : Option (Step × StepCtx) :=
  match s.current, s.ple.ctx with
  | some x, some c => if s.ple.state = .running ∧ c.phase = .measure then some (x, c) else none
  | _, _ => none

/-- The answers of NOT_AT_PEAK (R135): a list with its count, of each branch's number and its answer (DESIGN CHOICE,
log 80). -/
def peakAnswers (xs : List (Branch × Bool)) : List Field :=
  listOf (xs.map fun x => [.u 1 (Branch.num x.1), yes x.2])

/-- ACCEPT_PEAK on an ALIGN step in MEASURE (R135). -/
def State.acceptPeak (s : State) (x : Step) (c : StepCtx) : State × Reply :=
  let answers := x.branches.map fun b => (b, s.atPeak b c.limits.tolerance)
  if answers.all Prod.snd then
    take (s.hush fun s => s.conclude x c { verdict := .pass, reason := none, items := x.branches.flatMap s.alignItems }
      .byVerdict)
  else (s, { status := .notAtPeak, payload := peakAnswers answers })

/-- ACCEPT_PEAK after its CLOSED check: a parked WAIT step wakes, and the request is refused all the same (R154). -/
def State.acceptFrom (s : State) : State × Reply :=
  match s.measuring with
  | some (x, c) =>
    if x.kind = .align then s.acceptPeak x c
    else if x.kind = .wait then refuse .wrongState (s.hush fun s => s.wake x c)
    else refuse .wrongState s
  | none => refuse .wrongState s

/-- ACCEPT_PEAK (R135). -/
def execAcceptPeak (f : ReqFrame) (s : State) : Host.Outcome State Fault Refusal :=
  .next (react (s.serve f 0x25 (unlessClosed f fun s => s.acceptFrom)))

/-- FORCE_ACCEPT after its CLOSED check (R135). -/
def State.forceFrom (s : State) : State × Reply :=
  match s.measuring with
  | some (x, c) =>
    if x.kind = .align then
      take (s.hush fun s => s.conclude x c
        { verdict := .fail, reason := some .forced, items := x.branches.flatMap s.alignItems } .byVerdict)
    else refuse .wrongState s
  | none => refuse .wrongState s

/-- FORCE_ACCEPT (R135). -/
def execForceAccept (f : ReqFrame) (s : State) : Host.Outcome State Fault Refusal :=
  .next (react (s.serve f 0x26 (unlessClosed f fun s => s.forceFrom)))

/-! ## Suspension (R146, R149 to R151) -/

/-- The plan states in which a step runs or is about to: ABORT_STEP and PAUSE are taken (R146, R155). -/
def PlanState.underWay : PlanState → Bool
  | .running | .suspended | .paused => true
  | .idle | .loaded | .halted | .complete | .closed => false

/-- ABORT_STEP (R146). -/
def execAbortStep (f : ReqFrame) (s : State) : Host.Outcome State Fault Refusal :=
  .next (react (s.serve f 0x27 (unlessClosed f fun s =>
    if s.ple.state.underWay then take (s.report .abort) else refuse .wrongState s)))

/-- Whether a cause is active (R149). -/
def State.causeActive (s : State) (x : Step) : Cause → Bool
  | .unitMute => x.mutedBy s.tma.mute
  | .txFault => s.tma.settle == .fault
  | .remoteMode => match s.pcu.req with
    | .holding .plan _ _ .different _ => true
    | _ => false
  | .peerLoss => s.pcu.peer != .paired
  | .sourceLoss => x.lossBranches.any s.isOff
  | .installerAbort => false

/-- The suspended step with its context and record. -/
def State.suspended (s : State) : Option (Step × StepCtx × SuspRec) :=
  match s.current, s.ple.ctx, s.ple.susp with
  | some x, some c, some r => if s.ple.state = .suspended then some (x, c, r) else none
  | _, _, _ => none

/-- CONTINUE after its CLOSED check (R149). CAUSE_ACTIVE's list has the order of the cause set's (DESIGN CHOICE,
log 82). -/
def State.continuePlan (s : State) : State × Reply :=
  match s.suspended with
  | none => refuse .wrongState s
  | some (x, _, r) =>
    match r.causes.filter (s.causeActive x) with
    | [] => take ((s.endSuspension.movePlan .running .continued).setTodo (some .prepare))
    | cs => (s, { status := .causeActive, payload := listOf (cs.map fun c => [.u 1 (Cause.num c)]) })

/-- CONTINUE (R149). -/
def execContinueStep (f : ReqFrame) (s : State) : Host.Outcome State Fault Refusal :=
  .next (react (s.serve f 0x28 (unlessClosed f fun s => s.continuePlan)))

/-- RESTART_STEP's effect (R150). -/
def State.restart (s : State) (x : Step) (c : StepCtx) : State :=
  let c := { c with elapsed := 0, started := false, half := x.firstHalf, testEnded := false }
  let s := ((s.endSuspension.setCtx (some c)).movePlan .running .restart).alignStart x
  let s := match s.heldChannel x c with
    | some ch => s.flushChannel ch.1 ch.2
    | none => s
  s.setTodo (some .prepare)

/-- RESTART_STEP (R150). -/
def execRestartStep (f : ReqFrame) (s : State) : Host.Outcome State Fault Refusal :=
  .next (react (s.serve f 0x29 (unlessClosed f fun s =>
    match s.suspended with
    | some (x, c, _) => take (s.hush fun s => s.restart x c)
    | none => refuse .wrongState s)))

/-- SKIP_STEP (R151). -/
def execSkipStep (f : ReqFrame) (s : State) : Host.Outcome State Fault Refusal :=
  .next (react (s.serve f 0x2A (unlessClosed f fun s =>
    if s.suspended.isSome then take (s.abandon .skipped) else refuse .wrongState s)))

/-! ## Halts and pauses (R153, R155, R156) -/

/-- The plan leaves HALTED (R153). -/
def State.leaveHalt (s : State) : State :=
  let s := s.setPle { s.ple with halt := none }
  let i := s.ple.position.getD 0 + 1
  if i < s.ple.length then (s.movePlan .running .resume).setTodo (some (.start (s.firstStart i))) else s.complete

/-- RESUME_NEXT after its CLOSED check (R153, R165). -/
def State.resumeNext (s : State) : State × Reply :=
  if s.ple.state ≠ .halted then refuse .wrongState s
  else if s.ple.halt = some .recordFull then
    if s.acr.held.isSome && !s.acr.storable then refuse .noSpace s else take s.storeHeld.1.leaveHalt
  else take s.leaveHalt

/-- RESUME_NEXT (R153). -/
def execResumeNext (f : ReqFrame) (s : State) : Host.Outcome State Fault Refusal :=
  .next (react (s.serve f 0x2B (unlessClosed f fun s => s.resumeNext)))

/-- PAUSE (R155). -/
def execPause (f : ReqFrame) (s : State) : Host.Outcome State Fault Refusal :=
  .next (s.serve f 0x2C (unlessClosed f fun s =>
    if s.ple.state.underWay then take (s.setPle { s.ple with pauseReq := true }) else refuse .wrongState s))

/-- SET_STEP_MODE: on is 0 and off is 1 (R119, R155, R178). -/
def execSetStepMode (f : ReqFrame) (mode : Nat) (s : State) : Host.Outcome State Fault Refusal :=
  .next (s.serve f 0x2D (unlessClosed f fun s =>
    match yesNoOf mode with
    | some on => take (s.setPle { s.ple with stepMode := on })
    | none => refuse .badArgument s))

/-- RESUME_PLAN after its CLOSED check (R156). The seen set is answered in the order of its list (DESIGN CHOICE, log 82). -/
def State.resumePlan (s : State) : State × Reply :=
  match s.ple.pauseRec with
  | some r =>
    if s.ple.state = .paused then
      let t := s.movePlan .running .resume
      (t.setPle { t.ple with pauseRec := none, todo := some (.start r.next) },
        { payload := listOf (r.seen.map fun c => [.u 1 (Cause.num c)]) })
    else refuse .wrongState s
  | none => refuse .wrongState s

/-- RESUME_PLAN (R156). -/
def execResumePlan (f : ReqFrame) (s : State) : Host.Outcome State Fault Refusal :=
  .next (react (s.serve f 0x2E (unlessClosed f fun s => s.resumePlan)))

end Sys2Proof.Machine
end

