-- ==== Sys2Proof/Machine/Queries.lean ====
section
/-! DEFINITION. The requests that only read, and NEXT_SEGMENT: codes 0x01 to 0x0E of R179. -/

namespace Sys2Proof.Machine

/-! ## BRANCH_STATUS (R180) -/

/-- A branch in BRANCH_STATUS (R180). The slope, to which R178 gives no encoding, is two signed bytes (DESIGN CHOICE,
log 53). -/
def BranchRec.fields (r : BranchRec) : List Field :=
  [yes r.fitted, .u 1 r.active.toNat, yes r.seed.isSome, .u 1 (Origin.num r.origin), .s 2 r.slope, .u 1 r.shift]

/-- The four branches, then the held temperature, told as in SET_TEMPERATURE's response (log 53), and its status. -/
def State.branchFields (s : State) : List Field :=
  (allBranches.flatMap fun b => (s.branch b).fields) ++ [.s 2 s.blu.temp.held, .u 1 (TempStatus.num s.blu.temp.status)]

/-- BRANCH_STATUS (R180). -/
def execBranchStatus (f : ReqFrame) (s : State) : Host.Outcome State Fault Refusal :=
  .next (s.serve f 0x01 (ifCoded f fun s => tell s.branchFields s))

/-! ## READ_VALUE (R17, R35) -/

/-- The value of a figure: a detector code is a count, every other value is signed (R178). -/
def valueField (q : Quantity) (v : Int) : Field :=
  match q with
  | .rawCode _ => .u 2 v.toNat
  | _ => .s 2 v

/-- The indications of a figure: NOMINAL on a deviation, AT_LEAST on an XPD, then the flags (R35, log 54). Bit 7 of the
flag byte is sent as 0, as no value stands beside it that may be absent (DESIGN CHOICE, log 63). -/
def indications (q : Quantity) (x : Figure) : List Field :=
  (match q with
    | .deviation _ => [yes x.nominal]
    | .xpd _ => [yes x.atLeast]
    | _ => []) ++ [.u 1 x.flags.byte]

def figureFields (q : Quantity) (x : Figure) : List Field :=
  [valueField q x.value, .u 1 (Scale.num q.scale)] ++ indications q x ++ [.u 4 x.time]

/-- Whether READ_VALUE serves a quantity, with its named branch fitted (R17, R35). -/
def State.readable (s : State) : Quantity → Bool
  | .rawCode b | .level b | .smoothed b _ | .deviation b | .fadeMargin b => (s.branch b).fitted
  | .xpd _ | .divDiff _ => true
  | .farSmoothed _ | .errInterval _ => false

def State.readFigure (s : State) (quantity branch scale : Nat) : State × Reply :=
  match Quantity.ofArgs quantity branch scale with
  | none => refuse .badArgument s
  | some q =>
    if s.readable q then
      match s.figure q with
      | some x => tell (figureFields q x) s
      | none => refuse .wrongState s
    else refuse .badArgument s

/-- READ_VALUE (R17, R35). -/
def execReadValue (f : ReqFrame) (quantity branch scale : Nat) (s : State) : Host.Outcome State Fault Refusal :=
  .next (s.serve f 0x02 (ifCoded f fun s => s.readFigure quantity branch scale))

/-! ## POINTING_STATUS (R40) -/

def FarSource.fields : FarSource → List Field
  | .nominal => .u 1 0 :: optS 2 none
  | .reported p => .u 1 1 :: optS 2 (some p)
  | .off => .u 1 2 :: optS 2 none

/-- A predicted level with its NOMINAL indication, or the reason of its absence (R40, log 54). -/
def Predicted.fields : Predicted → List Field
  | .absent r => optS 2 none ++ [yes false] ++ optU 1 (some (PredReason.num r))
  | .level v nominal => optS 2 (some v) ++ [yes nominal] ++ optU 1 none

def State.pointFields (s : State) (b : Branch) : List Field :=
  let r := s.point b
  r.pred.fields ++ optS 2 r.dev ++ [.u 1 (LobeClass.num r.cls)] ++ optU 1 (r.cand.map fun c => LobeClass.num c.1) ++
    optU 1 (r.cand.map Prod.snd) ++ [.u 2 r.stable] ++ optS 2 (r.peak.map Peak.held) ++
    optS 2 (r.peak.map Peak.marker) ++ [yes (s.falsePeak b)] ++ optS 2 r.peakDeviation

def State.pointingFields (s : State) : List Field :=
  [.u 1 (Branch.num s.ptu.pointing), .u 2 s.ptu.voltage, .u 2 s.ptu.freq, .u 1 (Cadence.num s.ptu.cadence)] ++
    s.ptu.far.h.fields ++ s.ptu.far.v.fields ++ (allBranches.flatMap s.pointFields) ++
    (allBranches.map fun b => yes (s.atPeak b s.pfl.windows.tolerance))

/-- POINTING_STATUS (R40). -/
def execPointingStatus (f : ReqFrame) (s : State) : Host.Outcome State Fault Refusal :=
  .next (s.serve f 0x03 (ifCoded f fun s => tell s.pointingFields s))

/-! ## Channels and streams (R61, R63) -/

def State.channelStatus (s : State) (channel : Nat) : State × Reply :=
  match channelOf channel with
  | none => refuse .badArgument s
  | some c => tell (channelFields (s.channel c) ++ [.u 2 (largestRun (s.chu.regions none))]) s

/-- CHANNEL_STATUS (R63). -/
def execChannelStatus (f : ReqFrame) (channel : Nat) (s : State) : Host.Outcome State Fault Refusal :=
  .next (s.serve f 0x04 (ifCoded f fun s => s.channelStatus channel))

def State.nextSegment (s : State) (p : Port) : State × Reply :=
  match s.stream p with
  | none => refuse .wrongState s
  | some x => s.segment p x

/-- NEXT_SEGMENT (R61, R62). -/
def execNextSegment (f : ReqFrame) (s : State) : Host.Outcome State Fault Refusal :=
  .next (s.serve f 0x05 (ifCoded f fun s => s.nextSegment f.port))

/-! ## The other blocks -/

/-- TEST_STATUS (R82). -/
def execTestStatus (f : ReqFrame) (s : State) : Host.Outcome State Fault Refusal :=
  .next (s.serve f 0x06 (ifCoded f fun s => tell s.testFields s))

/-- TX_STATUS (R95). -/
def execTxStatus (f : ReqFrame) (s : State) : Host.Outcome State Fault Refusal :=
  .next (s.serve f 0x07 (ifCoded f fun s => tell s.txFields s))

/-- PEER_STATUS (R116). -/
def execPeerStatus (f : ReqFrame) (s : State) : Host.Outcome State Fault Refusal :=
  .next (s.serve f 0x08 (ifCoded f fun s => tell s.peerFields s))

/-- READ_STEPS (R123). -/
def execReadSteps (f : ReqFrame) (start count : Nat) (s : State) : Host.Outcome State Fault Refusal :=
  .next (s.serve f 0x09 (ifCoded f fun s => s.readStepsFrom f.port start count))

/-! ## PLAN_STATUS (R143) -/

def causeList (cs : List Cause) : List Field := listOf (cs.map fun c => [.u 1 (Cause.num c)])

def PauseRec.fields (r : PauseRec) : List Field :=
  [.u 1 (PauseReason.num r.reason), .u 1 r.next.index, .u 1 r.next.attempt, .u 1 r.next.repeats] ++ r.time.fields ++
    causeList r.seen

/-- What the three records of PLAN_STATUS take at least, their lists empty and without accumulators: the zeros that
stand for an absent one (R178, log 25). -/
def suspRecordSize : Nat := 32
def pauseRecordSize : Nat := 10
def stepRecordSize : Nat := 47

/-- The step in progress: R143's list. -/
def StepCtx.fields (c : StepCtx) (x : Step) : List Field :=
  [.u 1 (StepKind.num x.kind), .u 1 c.attempt, .u 1 c.repeats, .u 1 (StepPhase.num c.phase)] ++
    optU 1 (c.half.map Pol.num) ++ [.u 4 c.elapsed] ++ optU 1 (c.phaseTimer.map (· / 1000)) ++
    [.u 1 c.suspensions, yes c.held.channel, yes c.held.localMode, yes c.held.turn, yes c.held.test] ++
    c.limits.fields ++ c.acc.fields x

def State.planFields (s : State) : List Field :=
  let p := s.ple
  let step : Option (List Field) := match s.current, p.ctx with
    | some x, some c => some (c.fields x)
    | _, _ => none
  [.u 1 (PlanState.num p.state), .u 1 p.length] ++ optU 1 p.position ++ optU 1 (p.halt.map HaltReason.num) ++
    [yes p.stepMode, yes p.pauseReq] ++ optGroup suspRecordSize (p.susp.map SuspRec.fields) ++
    optGroup pauseRecordSize (p.pauseRec.map PauseRec.fields) ++ optGroup stepRecordSize step

/-- PLAN_STATUS (R143). -/
def execPlanStatus (f : ReqFrame) (s : State) : Host.Outcome State Fault Refusal :=
  .next (s.serve f 0x0A (ifCoded f fun s => tell s.planFields s))

/-! ## The record, the port and the profile -/

/-- RECORD_STATUS (R172). -/
def execRecordStatus (f : ReqFrame) (s : State) : Host.Outcome State Fault Refusal :=
  .next (s.serve f 0x0B (ifCoded f fun s => tell s.recordFields s))

/-- READ_ENTRIES (R172). -/
def execReadEntries (f : ReqFrame) (first count : Nat) (s : State) : Host.Outcome State Fault Refusal :=
  .next (s.serve f 0x0C (ifCoded f fun s => s.readEntriesFrom f.port first count))

def State.portFields (s : State) (p : Port) : List Field :=
  let r := s.port p
  [.u 2 r.mask.toNat, .u 1 r.queue.length, yes r.overflow, .u 1 (if s.pif.present then 0 else 1), .u 1 s.iptMode]

/-- PORT_STATUS (R180). -/
def execPortStatus (f : ReqFrame) (s : State) : Host.Outcome State Fault Refusal :=
  .next (s.serve f 0x0D (ifCoded f fun s => tell (s.portFields f.port) s))

/-- PROFILE_STATUS (R196). -/
def execProfileStatus (f : ReqFrame) (s : State) : Host.Outcome State Fault Refusal :=
  .next (s.serve f 0x0E (ifCoded f fun s => tell s.profileFields s))

end Sys2Proof.Machine
end

