-- ==== Sys2Proof/Machine/RecordRequests.lean ====
section
/-! DEFINITION. The requests of the ACR (chapter 9), of the PIF (chapter 10) and of the PFL (chapter 11) that change
state. -/

namespace Sys2Proof.Machine

/-- WAIVE (R163). -/
def execWaive (f : ReqFrame) (seq : Nat) (s : State) : Host.Outcome State Fault Refusal :=
  .next (s.serveUnit f 0x36 (ifCoded f fun s => s.waiveEntry seq))

/-- PURGE_SUPERSEDED (R164). -/
def execPurgeSuperseded (f : ReqFrame) (s : State) : Host.Outcome State Fault Refusal :=
  .next (s.serveUnit f 0x37 (ifCoded f fun s => if s.acr.state = .opened then s.purge else refuse .wrongState s))

/-- REOPEN's effect on a CLOSED record (R172). -/
def State.reopenRecord (s : State) : State :=
  let items := [digestItem .digestLocal s.acr.localDigest, digestItem .digestPeer s.acr.peerDigest]
  let s := s.append (s.plainEntry .reopened none none items)
  (s.setAcr { s.acr with state := .opened, localDigest := none, peerDigest := none, echo := none }).movePlan .loaded
    .reopen

/-- REOPEN (R172); an append that is not storable is refused with NO_SPACE (R161). -/
def execReopen (f : ReqFrame) (s : State) : Host.Outcome State Fault Refusal :=
  .next (s.serveUnit f 0x38 (ifCoded f fun s =>
    if s.acr.state ≠ .closed then refuse .wrongState s
    else if !s.acr.storable then refuse .noSpace s
    else take s.reopenRecord))

/-- LOAD_PROFILE (R193). -/
def execLoadProfile (f : ReqFrame) (image : List Byte) (s : State) : Host.Outcome State Fault Refusal :=
  .next (react (s.serveUnit f 0x39 fun s => s.loadImage image))

/-- SET_EPOCH (R195). -/
def execSetEpoch (f : ReqFrame) (offset : BitVec 32) (s : State) : Host.Outcome State Fault Refusal :=
  .next (s.serveUnit f 0x3A (ifCoded f fun s => take (s.setPfl { s.pfl with epoch := some offset })))

/-- SET_NOTICE_MASK's effect on the issuing port (R180). -/
def State.setNotices (s : State) (p : Port) (mask : BitVec 16) : State × Reply :=
  if mask.toNat < 4096 then take (s.setPort p { s.port p with mask := mask }) else refuse .badArgument s

/-- SET_NOTICE_MASK (R180). -/
def execSetNoticeMask (f : ReqFrame) (mask : BitVec 16) (s : State) : Host.Outcome State Fault Refusal :=
  .next (s.serve f 0x2F (unlessClosed f fun s => s.setNotices f.port mask))

/-- RESET_PART (R180): answered OK; the delivery of that response makes the part reset due. -/
def execResetPart (f : ReqFrame) (s : State) : Host.Outcome State Fault Refusal :=
  .next (s.serveUnit f 0x3B (ifCoded f take))

end Sys2Proof.Machine
end

