-- ==== Sys2Proof/Machine/Dispatch.lean ====
section
/-! DEFINITION. The meaning of each command: one arm for each row of spec/opcode_table.json. -/

namespace Sys2Proof.Machine

/-- What a command does to everything but the queue. -/
def exec (i : Instr) (s : State) : Host.Outcome State Fault Refusal :=
  match i with
  | .powerOn straps attached => Sys2Proof.Machine.execPowerOn straps attached s
  | .profileReadComplete image => Sys2Proof.Machine.execProfileReadComplete image s
  | .memoryHeaderReject header => Sys2Proof.Machine.execMemoryHeaderReject header s
  | .memoryNoAnswer => Sys2Proof.Machine.execMemoryNoAnswer s
  | .memoryStall => Sys2Proof.Machine.execMemoryStall s
  | .detectorSample b code lock => Sys2Proof.Machine.execDetectorSample b code lock s
  | .doubleBurstEnd => Sys2Proof.Machine.execDoubleBurstEnd s
  | .freshnessExpiry => Sys2Proof.Machine.execFreshnessExpiry s
  | .intervalExpiry ch => Sys2Proof.Machine.execIntervalExpiry ch s
  | .testBlock p bits => Sys2Proof.Machine.execTestBlock p bits s
  | .testIntervalExpiry => Sys2Proof.Machine.execTestIntervalExpiry s
  | .settleReport change => Sys2Proof.Machine.execSettleReport change s
  | .settleTimeout => Sys2Proof.Machine.execSettleTimeout s
  | .composition => Sys2Proof.Machine.execComposition s
  | .peerFrame bytes => Sys2Proof.Machine.execPeerFrame bytes s
  | .silenceExpiry => Sys2Proof.Machine.execSilenceExpiry s
  | .holdExpiry => Sys2Proof.Machine.execHoldExpiry s
  | .prepareLimitExpiry => Sys2Proof.Machine.execPrepareLimitExpiry s
  | .settleLimitExpiry => Sys2Proof.Machine.execSettleLimitExpiry s
  | .measureExpiry => Sys2Proof.Machine.execMeasureExpiry s
  | .suspensionLimitExpiry => Sys2Proof.Machine.execSuspensionLimitExpiry s
  | .presenceLoss => Sys2Proof.Machine.execPresenceLoss s
  | .presenceAttach => Sys2Proof.Machine.execPresenceAttach s
  | .unitPortRead clocked => Sys2Proof.Machine.execUnitPortRead clocked s
  | .installerFrameSent => Sys2Proof.Machine.execInstallerFrameSent s
  | .installerBusRead count => Sys2Proof.Machine.execInstallerBusRead count s
  | .noticeAcknowledge => Sys2Proof.Machine.execNoticeAcknowledge s
  | .frameGapTimeout => Sys2Proof.Machine.execFrameGapTimeout s
  | .frameRestartDiscard => Sys2Proof.Machine.execFrameRestartDiscard s
  | .unknownRequest f code => Sys2Proof.Machine.execUnknownRequest f code s
  | .partReset => Sys2Proof.Machine.execPartReset s
  | .branchStatus f => Sys2Proof.Machine.execBranchStatus f s
  | .readValue f quantity branch scale => Sys2Proof.Machine.execReadValue f quantity branch scale s
  | .pointingStatus f => Sys2Proof.Machine.execPointingStatus f s
  | .channelStatus f channel => Sys2Proof.Machine.execChannelStatus f channel s
  | .nextSegment f => Sys2Proof.Machine.execNextSegment f s
  | .testStatus f => Sys2Proof.Machine.execTestStatus f s
  | .txStatus f => Sys2Proof.Machine.execTxStatus f s
  | .peerStatus f => Sys2Proof.Machine.execPeerStatus f s
  | .readSteps f start count => Sys2Proof.Machine.execReadSteps f start count s
  | .planStatus f => Sys2Proof.Machine.execPlanStatus f s
  | .recordStatus f => Sys2Proof.Machine.execRecordStatus f s
  | .readEntries f first count => Sys2Proof.Machine.execReadEntries f first count s
  | .portStatus f => Sys2Proof.Machine.execPortStatus f s
  | .profileStatus f => Sys2Proof.Machine.execProfileStatus f s
  | .resetPeak f target => Sys2Proof.Machine.execResetPeak f target s
  | .setPointing f branch => Sys2Proof.Machine.execSetPointing f branch s
  | .bind f args => Sys2Proof.Machine.execBind f args s
  | .run f channel => Sys2Proof.Machine.execRun f channel s
  | .halt f channel => Sys2Proof.Machine.execHalt f channel s
  | .resume f channel => Sys2Proof.Machine.execResume f channel s
  | .flush f channel => Sys2Proof.Machine.execFlush f channel s
  | .unbind f channel => Sys2Proof.Machine.execUnbind f channel s
  | .openStream f quantum => Sys2Proof.Machine.execOpenStream f quantum s
  | .closeStream f => Sys2Proof.Machine.execCloseStream f s
  | .join f channel => Sys2Proof.Machine.execJoin f channel s
  | .leave f channel => Sys2Proof.Machine.execLeave f channel s
  | .startTest f pols duration severe => Sys2Proof.Machine.execStartTest f pols duration severe s
  | .stopTest f => Sys2Proof.Machine.execStopTest f s
  | .txRequest f mode => Sys2Proof.Machine.execTxRequest f mode s
  | .txRelease f => Sys2Proof.Machine.execTxRelease f s
  | .turnRequest f mode => Sys2Proof.Machine.execTurnRequest f mode s
  | .turnRelease f => Sys2Proof.Machine.execTurnRelease f s
  | .loadSteps f start entries => Sys2Proof.Machine.execLoadSteps f start entries s
  | .setPlanLength f length => Sys2Proof.Machine.execSetPlanLength f length s
  | .runPlan f start => Sys2Proof.Machine.execRunPlan f start s
  | .stopPlan f => Sys2Proof.Machine.execStopPlan f s
  | .acceptPeak f => Sys2Proof.Machine.execAcceptPeak f s
  | .forceAccept f => Sys2Proof.Machine.execForceAccept f s
  | .abortStep f => Sys2Proof.Machine.execAbortStep f s
  | .continueStep f => Sys2Proof.Machine.execContinueStep f s
  | .restartStep f => Sys2Proof.Machine.execRestartStep f s
  | .skipStep f => Sys2Proof.Machine.execSkipStep f s
  | .resumeNext f => Sys2Proof.Machine.execResumeNext f s
  | .pause f => Sys2Proof.Machine.execPause f s
  | .setStepMode f mode => Sys2Proof.Machine.execSetStepMode f mode s
  | .resumePlan f => Sys2Proof.Machine.execResumePlan f s
  | .setNoticeMask f mask => Sys2Proof.Machine.execSetNoticeMask f mask s
  | .resetPlan f => Sys2Proof.Machine.execResetPlan f s
  | .setBranch f branch state => Sys2Proof.Machine.execSetBranch f branch state s
  | .setTemperature f celsius => Sys2Proof.Machine.execSetTemperature f celsius s
  | .setMute f mask => Sys2Proof.Machine.execSetMute f mask s
  | .setTxPower f power => Sys2Proof.Machine.execSetTxPower f power s
  | .clearTxFault f => Sys2Proof.Machine.execClearTxFault f s
  | .waive f seq => Sys2Proof.Machine.execWaive f seq s
  | .purgeSuperseded f => Sys2Proof.Machine.execPurgeSuperseded f s
  | .reopen f => Sys2Proof.Machine.execReopen f s
  | .loadProfile f image => Sys2Proof.Machine.execLoadProfile f image s
  | .setEpoch f offset => Sys2Proof.Machine.execSetEpoch f offset s
  | .resetPart f => Sys2Proof.Machine.execResetPart f s

end Sys2Proof.Machine
end

