-- ==== Sys2Proof/Machine/Transports.lean ====
section
/-! DEFINITION. The bytes and words on the two ports (R175, R176, log 62): the commands that what a partner sends stands
for, put at the end of the queue, and what the part sends. A receiver holds the frame that is arriving; the commands of
the opcode table are whole frames, so it stands beside the state and not in it. -/

namespace Sys2Proof.Machine

/-- Commands that have arrived, behind those that wait. -/
def State.enqueue (s : State) (cs : List Instr) : State := s.setPending (s.pending ++ cs)

/-- A complete request frame that has arrived on a port (R177). -/
def State.enqueueFrame (s : State) (p : Port) (gap : Bool) (bytes : List Byte) : State :=
  s.enqueue (decodeRequest p gap bytes).toList

/-! ## Reads (R175, R176) -/

def readyByte : Byte := 0xA5
def notReadyByte : Byte := 0x00
def filler : Byte := 0x00

/-- So many bytes, with filler where the given ones end. -/
def padTo : Nat → List Byte → List Byte
  | 0, _ => []
  | n + 1, [] => filler :: padTo n []
  | n + 1, b :: bs => b :: padTo n bs

/-- The frame that the next read sends. -/
def PortRec.next (r : PortRec) : Option OutFrame := r.toSend.bind r.content

/-- What a read of so many bytes sends: READY and the frame, or NOT_READY and filler. -/
def PortRec.readBytes (r : PortRec) (count : Nat) : List Byte :=
  padTo count (match r.next with
    | some f => readyByte :: f.bytes
    | none => [notReadyByte])

/-! ## The unit port (R175) -/

/-- A transaction: the bytes the master clocked in while it selected the port. The first names the kind. -/
def State.unitTransaction (s : State) : List Byte → State
  | [] => s
  | kind :: rest =>
    if kind = 0x57 then s.enqueueFrame .unit false rest
    else if kind = 0x52 then s.enqueue [.unitPortRead rest.length]
    else s

/-- What the part sends in a transaction of so many bytes after the kind byte. -/
def State.unitSends (s : State) (kind : Byte) (count : Nat) : List Byte :=
  if kind = 0x52 then (s.port .unit).readBytes count else padTo count []

/-! ## Mode 0: asynchronous serial (R176) -/

def startByte : Byte := 0x7E

/-- A byte-wise receiver: between frames, or with the bytes of the frame that is arriving and whether its start byte
followed a gap of at least 20 ms. -/
abbrev Receiver := Option (Bool × List Byte)

/-- A frame is complete with the payload that its header announces (R183). -/
def frameComplete : List Byte → Bool
  | _ :: hi :: lo :: payload => decide (payload.length = hi.toNat * 256 + lo.toNat)
  | _ => false

/-- A byte of the frame that is arriving. -/
def State.frameByte (s : State) (gap : Bool) (sofar : List Byte) (b : Byte) : State × Receiver :=
  let bytes := sofar ++ [b]
  if frameComplete bytes then (s.enqueueFrame .installer gap bytes, none) else (s, some (gap, bytes))

/-- Silence of so many milliseconds: more than 20 discard an incomplete frame. -/
def State.asyncSilence (s : State) (rx : Receiver) (gap : Nat) : State × Receiver :=
  if rx.isSome ∧ 20 < gap then (s.enqueue [.frameGapTimeout], none) else (s, rx)

/-- A byte between frames: only a start byte begins one. After a BAD_LENGTH one that follows a gap ends the disregarding,
and one that does not is disregarded (R177). -/
def State.asyncStart (s : State) (gap : Nat) (b : Byte) : State × Receiver :=
  if b = startByte then
    if 20 ≤ gap then (s.endResync .installer, some (true, []))
    else if s.pif.resync then (s, none)
    else (s, some (false, []))
  else (s, none)

/-- A byte that arrives after a silence of so many milliseconds, while a meter is attached. -/
def State.asyncByte (s : State) (rx : Receiver) (gap : Nat) (b : Byte) : State × Receiver :=
  if s.pif.present ∧ s.iptMode = 0 then
    match s.asyncSilence rx gap with
    | (s, none) => s.asyncStart gap b
    | (s, some (g, sofar)) => s.frameByte g sofar b
  else (s, none)

/-- A succession of bytes, each with the silence before it. -/
def State.asyncBytes (s : State) (rx : Receiver) : List (Nat × Byte) → State × Receiver
  | [] => (s, rx)
  | (gap, b) :: rest =>
    let x := s.asyncByte rx gap b
    x.1.asyncBytes x.2 rest

/-- What the part sends on mode 0 for a frame. -/
def OutFrame.asyncBytes (f : OutFrame) : List Byte := startByte :: f.bytes

/-! ## Mode 1: the addressed bus (R176) -/

/-- The installer bus address of mode 1 (R194). -/
def busAddress (x : Straps) : Nat := if x.iptAddr = 0 then 0x2C else 0x2D

/-- The control bytes of a write: the acknowledges in them, and the bytes after the last of them where one says that
request bytes follow. -/
def busControl (wanted : Bool) : List Byte → List Instr × Option (List Byte)
  | [] => ([], none)
  | c :: rest =>
    let ack := c.getLsbD 0
    let acks := if ack then [Instr.noticeAcknowledge] else []
    let wanted := wanted || !ack
    if c.getLsbD 7 then
      let r := busControl wanted rest
      (acks ++ r.1, r.2)
    else (acks, if wanted then some rest else none)

/-- A write to an address of the bus. -/
def State.busWrite (s : State) (address : Nat) (bytes : List Byte) : State :=
  if s.pif.present ∧ s.iptMode = 1 ∧ address = busAddress s.pfl.straps then
    let x := busControl false bytes
    let s := s.enqueue x.1
    match x.2 with
    | some frame => s.enqueueFrame .installer false frame
    | none => s
  else s

/-- A read of so many bytes from an address of the bus. -/
def State.busRead (s : State) (address count : Nat) : State :=
  if s.pif.present ∧ s.iptMode = 1 ∧ address = busAddress s.pfl.straps then s.enqueue [.installerBusRead count] else s

/-- What the part sends in that read: nothing while no meter is attached, on another mode, or to another address. -/
def State.busSends (s : State) (address count : Nat) : List Byte :=
  if s.pif.present ∧ s.iptMode = 1 ∧ address = busAddress s.pfl.straps then (s.port .installer).readBytes count else []

/-! ## Mode 2: 9-bit words (R176) -/

/-- The leading bit and the byte of a word. -/
def wordLead (w : BitVec 9) : Bool := w.getLsbD 8
def wordByte (w : BitVec 9) : Byte := w.setWidth 8

def wordOf (lead : Bool) (b : Byte) : BitVec 9 := BitVec.ofNat 9 (256 * lead.toNat + b.toNat)

/-- A first word: it ends the disregarding of R177, and what was incomplete is discarded without an answer. -/
def State.firstWord (s : State) (rx : Receiver) (b : Byte) : State × Receiver :=
  let s := s.endResync .installer
  let s := if rx.isSome then s.enqueue [.frameRestartDiscard] else s
  s.frameByte false [] b

/-- A word that arrives while a meter is attached; a later word outside a frame is disregarded. -/
def State.word (s : State) (rx : Receiver) (w : BitVec 9) : State × Receiver :=
  if s.pif.present ∧ s.iptMode = 2 then
    if wordLead w then s.firstWord rx (wordByte w)
    else match rx with
      | some (g, sofar) => s.frameByte g sofar (wordByte w)
      | none => (s, none)
  else (s, none)

/-- A succession of words. -/
def State.words (s : State) (rx : Receiver) : List (BitVec 9) → State × Receiver
  | [] => (s, rx)
  | w :: rest =>
    let x := s.word rx w
    x.1.words x.2 rest

/-- The words of a frame. -/
def frameWords : List Byte → List (BitVec 9)
  | [] => []
  | b :: bs => wordOf true b :: bs.map (wordOf false)

/-- The word that the part sends between frames. -/
def idleWord : BitVec 9 := 0

/-! ## What the installer port sends unprompted (R176) -/

/-- The frame in transmission on modes 0 and 2. -/
def State.transmitted (s : State) : Option OutFrame :=
  (s.port .installer).begun.bind (s.port .installer).content

/-- The bytes of mode 0: nothing between frames, and nothing while no meter is attached. -/
def State.asyncSends (s : State) : List Byte :=
  if s.pif.present ∧ s.iptMode = 0 then
    match s.transmitted with
    | some f => f.asyncBytes
    | none => []
  else []

/-- The words of mode 2: a frame, or the idle word between frames; nothing while no meter is attached. -/
def State.wordSends (s : State) : List (BitVec 9) :=
  if s.pif.present ∧ s.iptMode = 2 then
    match s.transmitted with
    | some f => frameWords f.bytes
    | none => [idleWord]
  else []

end Sys2Proof.Machine
end

