-- ==== Sys2Proof/Machine/Outputs.lean ====
section
/-! DEFINITION. The lines the part drives, formed from the state: the alignment tone (R38, R39), the pattern
paths (R67) and the attention line (R175). -/

namespace Sys2Proof.Machine

/-- A cadence's tone at a position in milliseconds (R38). -/
def Cadence.sounds (c : Cadence) (position : Nat) : Bool :=
  match c with
  | .continuous => true
  | .four => decide (position % 250 < 125)
  | .two => decide (position % 500 < 250)
  | .one => decide (position % 1000 < 500)
  | .silent => false

/-- The double burst with so many of its 50 ms left: silence 10, tone 15, silence 10, tone 15 (R39). -/
def burstSounds (left : Nat) : Bool :=
  decide (left ≤ 40) && (decide (25 < left) || decide (left ≤ 15))

/-- Whether the tone sounds: the double burst replaces the cadence's output while it lasts (R39). -/
def Ptu.toneOn (p : Ptu) : Bool :=
  match p.burst with
  | some left => burstSounds left
  | none => p.cadence.sounds p.cadencePhase

/-- The test blocks that the last millisecond put on the modem's pattern path of a polarization, in every state of the
transmitter: the modem transmits them while that polarization is PATTERN (R67, log 60). -/
def State.patternPath (s : State) (p : Pol) : List (BitVec 2048) := (s.etu.gens.get p).delivered

/-- The unit port's attention line (R175). -/
def State.attention (s : State) : Bool :=
  let r := s.port .unit
  r.response.isSome || r.refusal.isSome || !r.queue.isEmpty

end Sys2Proof.Machine
end

