-- ==== Sys2Proof/Safety.lean ====
section
/-! DEFINITION. What counts as safe: the laws that the rules say the blocks keep, each as a property of a state, and the
conditions under which a request reaches the rule that owns it. A run is safe while every state in it keeps the laws. -/

namespace Sys2Proof

/-- The frame and the command code of a request; events carry none (R179). -/
def Instr.request : Instr → Option (ReqFrame × Nat)
  | .powerOn _ _ | .profileReadComplete _ | .memoryHeaderReject _ | .memoryNoAnswer | .memoryStall
  | .detectorSample _ _ _ | .doubleBurstEnd | .freshnessExpiry | .intervalExpiry _ | .testBlock _ _
  | .testIntervalExpiry | .settleReport _ | .settleTimeout | .composition | .peerFrame _ | .silenceExpiry
  | .holdExpiry | .prepareLimitExpiry | .settleLimitExpiry | .measureExpiry | .suspensionLimitExpiry
  | .presenceLoss | .presenceAttach | .unitPortRead _ | .installerFrameSent | .installerBusRead _
  | .noticeAcknowledge | .frameGapTimeout | .frameRestartDiscard | .partReset => none
  | .unknownRequest f code => some (f, code)
  | .branchStatus f => some (f, 0x01)
  | .readValue f _ _ _ => some (f, 0x02)
  | .pointingStatus f => some (f, 0x03)
  | .channelStatus f _ => some (f, 0x04)
  | .nextSegment f => some (f, 0x05)
  | .testStatus f => some (f, 0x06)
  | .txStatus f => some (f, 0x07)
  | .peerStatus f => some (f, 0x08)
  | .readSteps f _ _ => some (f, 0x09)
  | .planStatus f => some (f, 0x0A)
  | .recordStatus f => some (f, 0x0B)
  | .readEntries f _ _ => some (f, 0x0C)
  | .portStatus f => some (f, 0x0D)
  | .profileStatus f => some (f, 0x0E)
  | .resetPeak f _ => some (f, 0x0F)
  | .setPointing f _ => some (f, 0x10)
  | .bind f _ => some (f, 0x11)
  | .run f _ => some (f, 0x12)
  | .halt f _ => some (f, 0x13)
  | .resume f _ => some (f, 0x14)
  | .flush f _ => some (f, 0x15)
  | .unbind f _ => some (f, 0x16)
  | .openStream f _ => some (f, 0x17)
  | .closeStream f => some (f, 0x18)
  | .join f _ => some (f, 0x19)
  | .leave f _ => some (f, 0x1A)
  | .startTest f _ _ _ => some (f, 0x1B)
  | .stopTest f => some (f, 0x1C)
  | .txRequest f _ => some (f, 0x1D)
  | .txRelease f => some (f, 0x1E)
  | .turnRequest f _ => some (f, 0x1F)
  | .turnRelease f => some (f, 0x20)
  | .loadSteps f _ _ => some (f, 0x21)
  | .setPlanLength f _ => some (f, 0x22)
  | .runPlan f _ => some (f, 0x23)
  | .stopPlan f => some (f, 0x24)
  | .acceptPeak f => some (f, 0x25)
  | .forceAccept f => some (f, 0x26)
  | .abortStep f => some (f, 0x27)
  | .continueStep f => some (f, 0x28)
  | .restartStep f => some (f, 0x29)
  | .skipStep f => some (f, 0x2A)
  | .resumeNext f => some (f, 0x2B)
  | .pause f => some (f, 0x2C)
  | .setStepMode f _ => some (f, 0x2D)
  | .resumePlan f => some (f, 0x2E)
  | .setNoticeMask f _ => some (f, 0x2F)
  | .resetPlan f => some (f, 0x30)
  | .setBranch f _ _ => some (f, 0x31)
  | .setTemperature f _ => some (f, 0x32)
  | .setMute f _ => some (f, 0x33)
  | .setTxPower f _ => some (f, 0x34)
  | .clearTxFault f => some (f, 0x35)
  | .waive f _ => some (f, 0x36)
  | .purgeSuperseded f => some (f, 0x37)
  | .reopen f => some (f, 0x38)
  | .loadProfile f _ => some (f, 0x39)
  | .setEpoch f _ => some (f, 0x3A)
  | .resetPart f => some (f, 0x3B)

end Sys2Proof

namespace Sys2Proof.Machine

/-! ## When a request reaches its rule (R177, R178) -/

/-- A frame passes R177's checks 1 to 3 and R178's check of its coding. -/
abbrev State.Serves (s : State) (f : ReqFrame) : Prop :=
  s.disregards f = false ∧ (s.port f.port).inService = none ∧ s.pfl.status ≠ .reading ∧ badLength f = false ∧
    f.fits = true ∧ f.coded = true

/-- A served frame that its rule does not refuse with CLOSED (R179). -/
abbrev State.Admits (s : State) (f : ReqFrame) : Prop := s.Serves f ∧ s.closedTo f = false

/-- A served frame of the unit port, which alone may issue some requests (R179). -/
abbrev State.ServesUnit (s : State) (f : ReqFrame) : Prop := s.Serves f ∧ f.port = .unit

/-- Between commands: nothing waits for the PLE within a command. -/
abbrev State.Settled (s : State) : Prop := s.reports = [] ∧ s.ple.todo = none

/-- Between commands with a plan that no report reaches (R147, R148, R156). -/
abbrev State.AtRest (s : State) : Prop := s.Settled ∧ s.ple.state.underWay = false

/-! ## What a request leaves -/

/-- The response that a reply makes, with the command echo (R178). -/
def Reply.response (r : Reply) (code : Nat) : Response :=
  { status := r.status, echo := code, clamped := r.clamped, discarded := r.discarded, payload := r.payload }

/-- `t` is `u` with one request of a port answered: its response waits and it is in service (R177); the other port, the
queues, the masks, the refusals and every other block are as in `u`. -/
def State.Answers (u t : State) (p : Port) (code : Nat) (r : Reply) : Prop :=
  t = u.setPif t.pif ∧ (t.port p).inService = some code ∧ (t.port p).response = some (r.response code) ∧
    (∀ q, (t.port q).refusal = (u.port q).refusal ∧ (t.port q).queue = (u.port q).queue ∧
      (t.port q).overflow = (u.port q).overflow ∧ (t.port q).mask = (u.port q).mask) ∧
    (∀ q, q ≠ p → t.port q = u.port q) ∧ t.pif.present = u.pif.present ∧ t.pif.resetDue = u.pif.resetDue ∧
    t.pif.resync = (if p = .installer then false else u.pif.resync)

/-- `t` is `u` with one request of a port answered, as in `Answers`, but for the notices that its effect has queued. -/
def State.Replies (u t : State) (p : Port) (code : Nat) (r : Reply) : Prop :=
  t = u.setPif t.pif ∧ (t.port p).inService = some code ∧ (t.port p).response = some (r.response code) ∧
    (∀ q, (t.port q).refusal = (u.port q).refusal ∧ (t.port q).mask = (u.port q).mask) ∧
    (∀ q, q ≠ p → (t.port q).inService = (u.port q).inService ∧ (t.port q).response = (u.port q).response) ∧
    t.pif.present = u.pif.present ∧ t.pif.resetDue = u.pif.resetDue ∧
    t.pif.resync = (if p = .installer then false else u.pif.resync)

/-- A port's request is answered, whatever else the request has done. -/
def State.Responds (t : State) (p : Port) (code : Nat) (r : Reply) : Prop :=
  (t.port p).inService = some code ∧ (t.port p).response = some (r.response code)

/-- A notice is the newest of every port whose mask holds its kind (R181). -/
def State.Notified (t : State) (kind : NoticeKind) (payload : List Field) : Prop :=
  ∀ p, maskHas (t.port p).mask kind = true → (t.port p).queue.getLast? = some { kind := kind, payload := payload }

/-- A notice waits at every port whose mask holds its kind (R181). -/
def State.Told (t : State) (kind : NoticeKind) (payload : List Field) : Prop :=
  ∀ p, maskHas (t.port p).mask kind = true → ({ kind := kind, payload := payload } : Notice) ∈ (t.port p).queue

/-- No notice has been posted since a state (R181). -/
def State.Unposted (t s : State) : Prop := ∀ p, (t.port p).queue = (s.port p).queue ∧ (t.port p).overflow = (s.port p).overflow

/-- What an event of no port leaves of the ports: only their queues and what is being sent may change. -/
def State.QuietPorts (s t : State) : Prop :=
  t.pif.present = s.pif.present ∧ t.pif.resync = s.pif.resync ∧ t.pif.resetDue = s.pif.resetDue ∧
    ∀ p, (t.port p).inService = (s.port p).inService ∧ (t.port p).response = (s.port p).response ∧
      (t.port p).refusal = (s.port p).refusal ∧ (t.port p).mask = (s.port p).mask

/-- The present command answers with a next state that meets a condition. -/
def Completes (o : Host.Outcome State Fault Refusal) (ok : State → Prop) : Prop := ∃ t, o = .next t ∧ ok t

/-- The present command's own effect is a state that meets a condition, and the plan engine then reacts to what the
blocks report of it (log 21). Where the plan is at rest, that effect is all there is. -/
def Reacts (o : Host.Outcome State Fault Refusal) (ok : State → Prop) : Prop :=
  ∃ u, o = .next (react u) ∧ ok u ∧
    (u.ple.state.underWay = false → u.ple.todo = none → o = .next (u.setReports []))

/-! ## What the notices carry, by the rules that post them (R178) -/

/-- PEER_STATE (R116): both states, the mismatch reason, and whom the last taken frame came from. -/
def peerTold (old new : PeerState) (last : PeerFrame) : List Field :=
  [.u 1 (PeerState.num old), .u 1 (PeerState.num new)] ++ optU 1 (new.reason.map MismatchReason.num) ++
    [.u 2 last.linkId, .u 1 (if last.letter = .a then 0 else 1)]

/-- CHANNEL_STATE (R64): the channel, its owner before the change, both states, the cause, and what remains and is stored
after it, which a FREE channel has no longer (log 93). -/
def channelTold (c : Fin 8) (owner : Option Party) (old : Option ChanState) (new : Option ChanRec)
    (cause : Option StateCause) : List Field :=
  [.u 1 c.val, .u 1 (ownerNum owner), .u 1 (chanStateNum old), .u 1 (chanStateNum (new.map ChanRec.state))] ++
    optU 1 (cause.map StateCause.num) ++
    match new with
    | some r => [.u 1 1, budgetField r.remaining, .u 1 1, .u 4 r.stored]
    | none => [.u 1 0, .u 3 0, .u 1 0, .u 4 0]

/-- TEST_DONE (R80): the owner, the polarizations, the end cause, the intervals completed, and each tested polarization's
totals and outage state, in a list with its count (log 14). -/
def testTold (owner : Option Party) (x : TestSetup) (cause : EndCause) (completed : Nat) (counts : Pol → CountRec) :
    List Field :=
  let tested := [Pol.h, .v].filter fun p => Pols.has x.pols p
  [.u 1 (ownerNum owner), .u 1 (Pols.num x.pols), .u 1 (EndCause.num cause), .u 4 completed, .u 1 tested.length] ++
    tested.flatMap fun p =>
      let t := (counts p).totals
      [.u 4 t.clean, .u 4 t.errored, .u 4 t.severe, .u 4 t.outage, .u 8 t.bits, .u 8 t.bitErrors, .u 2 t.syncLosses,
        .u 1 (if (counts p).outage then 1 else 0)]

/-- ENTRY_APPENDED (R161): the entry's number and kind, its step index and verdict where present, and how many entries are
held. -/
def entryTold (seq : Nat) (kind : EntryKind) (index : Option Nat) (verdict : Option Verdict) (held : Nat) : List Field :=
  [.u 2 seq, .u 1 (EntryKind.code kind)] ++ optU 1 index ++ optU 1 (verdict.map Verdict.code) ++ [.u 1 held]

/-- The PROFILE_STATUS notice (R196): the status, the CRC and the rejection. -/
def profileTold (p : Pfl) : List Field :=
  [.u 1 (ProfileStatus.num p.status)] ++ optU 2 (p.crc.map BitVec.toNat) ++
    optU 1 (p.rejection.map fun r => RejectReason.num r.reason) ++ optU 2 (p.rejection.bind Rejection.offset)

/-! ## What the blocks do, as the rules' tables give it -/

/-- The arbiter's record once its slots or its mask have changed (R86, R87): outside FAULT, outputs that differ are
driven, with the next change number and a full settle limit. -/
def Tma.arbitrated (x : Tma) (commPower : Int) : Tma :=
  if x.settle = .fault ∨ outputsOf x.result commPower = x.driven then x
  else { x with driven := outputsOf x.result commPower, change := (x.change + 1) % 256, settle := .settling, timer := some 2000 }

/-- The request side after a taken release (R111's table). -/
def Pcu.releasedSide (p : Pcu) : RequestSide :=
  match p.req with
  | .none => .none
  | .requesting _ _ | .deferred _ _ => .none
  | .holding w m false x a => if p.silent then .none else .holding w m true x a
  | .holding w m true x a => .holding w m true x a

/-- The turn as the peer leaves PAIRED (R112's table). -/
def Pcu.silenced (p : Pcu) (holdTime : Nat) : Pcu :=
  let silent : Pcu := { p with silent := true, hold := some (1000 * holdTime) }
  match p.grant, p.req with
  | some _, _ => silent
  | none, .holding _ _ false _ _ => silent
  | none, .holding _ _ true _ _ => { p with req := .none, silent := false, hold := none }
  | none, .none | none, .requesting _ _ | none, .deferred _ _ => p

/-- The coordinator's record after a taken release (R105, R111): the silent flag and the hold timer last while a turn is
held. -/
def Pcu.afterRelease (p : Pcu) : Pcu :=
  let q : Pcu := { p with req := p.releasedSide }
  if q.grant.isSome = true ∨ q.req.released.isSome = true then q else { q with silent := false, hold := none }

/-- The request side that a TURN_REQUEST of the plan leaves, and none where it is refused with OWNED or WRONG_STATE
(R110's table). -/
def Pcu.planAsks (p : Pcu) (m : RequestMode) : Option RequestSide :=
  match p.req with
  | .none => if p.peer = .paired then some (if p.grant.isSome then .deferred .plan m else .requesting .plan m) else none
  | .requesting .plan _ => some (.requesting .plan m)
  | .deferred .plan _ => some (.deferred .plan m)
  | .holding .plan _ false x a => some (.holding .plan m false x a)
  | .holding _ _ _ _ _ | .requesting _ _ | .deferred _ _ => none

/-- A polarization's record as its test ends (R76, R80): the pending run is resolved, and no interval is in progress
(DESIGN CHOICE, log 59). -/
def CountRec.ended (r : CountRec) : CountRec :=
  { r with
    pend := [], current := { blocks := 0, errored := 0, bitErrors := 0, hunt := false },
    totals := if r.outage then { r.totals with outage := r.totals.outage + r.pend.length }
      else { r.totals with severe := r.totals.severe + r.pend.length } }

/-- Whether both transmitters radiate in two states what they did before. -/
abbrev State.sameOutputs (s u : State) : Prop := u.tma.driven.h = s.tma.driven.h ∧ u.tma.driven.v = s.tma.driven.v

/-- The pointing unit beside a change of the arbiter (R28): the stable counts return to 0 where a driven state changes,
and nothing else changes. -/
def State.PointsOn (s u : State) : Prop :=
  u.ptu = { s.ptu with recs := u.ptu.recs } ∧
    ∀ b, u.point b = if s.sameOutputs u then s.point b else { s.point b with stable := 0 }

/-- The alignment outputs as the pointing branch drives them (R37 to R39), the cadence's position and the burst being
given; a tone without a deviation takes a free frequency (log 23). -/
def State.Drives (s u : State) (phase : Nat) (burst : Timer) : Prop :=
  let r := u.point u.ptu.pointing
  let d := outputDeviation r.cls r.dev (u.smoothed u.ptu.pointing)
  u.ptu.voltage = alignmentVoltage r.cls r.dev (u.smoothed u.ptu.pointing) ∧ u.ptu.cadence = r.cls.cadence ∧
    (∀ y, d = some y → u.ptu.freq = (max 300 (min 3000 (1000 + 2 * y))).toNat ∧ u.draws = s.draws) ∧
    (d = none → 300 ≤ u.ptu.freq ∧ u.ptu.freq ≤ 3000 ∧ u.draws = s.draws + 1) ∧
    u.ptu.cadencePhase = (if u.ptu.cadence = s.ptu.cadence then phase else 0) ∧
    u.ptu.burst = if u.ptu.cadence = .silent then none else burst

/-- The branch of which a report says that it went OFF. -/
def Report.offBranch : Report → Option Branch
  | .branchOff b => some b
  | _ => none

/-- Whether a report says that the peer state has left PAIRED. -/
def Report.leavesPaired : Report → Bool
  | .peerState .paired _ => true
  | _ => false

/-- Whether a report says that the plan's request of a turn has ended (R105). -/
def Report.endsPlanTurn : Report → Bool
  | .turnState (some (.plan, _)) => true
  | _ => false

/-! ## What becomes of a step -/

/-- A step in progress (R119). -/
abbrev State.Doing (s : State) (x : Step) (c : StepCtx) : Prop := s.current = some x ∧ s.ple.ctx = some c

/-- Whether a step holds the channel of a number. -/
def holdsChannel (x : Step) (c : StepCtx) (d : Fin 8) : Prop :=
  c.held.channel = true ∧ ∃ f, x.channel = some f ∧ f.channel = d

/-- PLAN_STATE (R143): both states, the reason and the position. -/
def State.planTold (s : State) (new : PlanState) (reason : PlanReason) : List Field :=
  [.u 1 (PlanState.num s.ple.state), .u 1 (PlanState.num new), .u 1 (PlanReason.num reason)] ++ optU 1 s.ple.position

/-- A PLAN_STATE notice is the newest of every port whose mask holds its kind (R143). -/
def State.TellsPlan (s u : State) (new : PlanState) (reason : PlanReason) : Prop :=
  u.Notified .planState (s.planTold new reason)

/-- STEP_DONE waits at every port whose mask holds it (R143). How it tells what became of the entry is log 68's, and the
form of its items log 90's (DESIGN CHOICE). -/
def State.TellsDone (s u : State) (x : Step) (c : StepCtx) (verdict : Verdict) (reason : Option Reason) (items : List Item)
    (place : List Field) : Prop :=
  let payload : List Field :=
    [.u 1 (s.ple.position.getD 0), .u 1 (StepKind.num x.kind), .u 2 x.label, .u 1 c.attempt, .u 1 (Verdict.code verdict)] ++
      optU 1 (reason.map Reason.code) ++ place ++ listOf (items.map Item.fields)
  u.Told .stepDone payload

/-- The entry of a step's result, before it has a number (R133, R160). -/
def State.entryOf (s : State) (x : Step) (c : StepCtx) (kind : EntryKind) (r : Result) : Entry :=
  { seq := 0, kind := kind,
    step := some { index := s.ple.position.getD 0, label := x.label, attempt := c.attempt },
    verdict := some r.verdict, reason := r.reason, startTime := c.startTime, endTime := s.recTime,
    suspensions := c.suspensions, superseded := false, ref := none, items := r.items }

/-- The record with an entry stored (R161): numbered at the end of the list, the earlier results of its step index
superseded where it is a result or a handover entry. -/
def Acr.withEntry (a : Acr) (e : Entry) : Acr :=
  let result : Prop := e.kind = .stepResult ∨ e.kind = .handover
  { a with
    next := a.next + 1,
    entries := (a.entries.map fun y =>
        if y.kind = .stepResult ∧ result ∧ y.step.map StepTag.index = e.step.map StepTag.index then
          { y with superseded := true }
        else y) ++ [{ e with seq := a.next }] }

/-- A stored entry's notice waits (R161). -/
def State.TellsEntry (s u : State) (e : Entry) : Prop :=
  u.Told .entryAppended
    (entryTold s.acr.next e.kind (e.step.map StepTag.index) e.verdict (s.acr.entries.length + 1))

/-- What releasing a step's resources leaves of the other blocks (R133, step 3; R57, R78, R91, R111), a freed channel being
told of as log 93 has it (DEDUCED). -/
def State.GivesBack (s u : State) (x : Step) (c : StepCtx) : Prop :=
  let t := s.etu.test
  let drops : Prop := c.held.test = true ∧ t.owner = some .plan
  u.pcu = (if c.held.turn = true ∧ s.pcu.req.requester = some .plan then s.pcu.afterRelease else s.pcu) ∧
    u.tma = (if c.held.localMode then Tma.arbitrated { s.tma with planSlot := none } s.pfl.link.commPower else s.tma) ∧
    s.PointsOn u ∧ u.draws = s.draws ∧ u.chu.streams = s.chu.streams ∧
    (∀ d, (holdsChannel x c d → u.channel d = none ∧ ∀ q, s.channel d = some q →
        u.Told .channelState (channelTold d (some q.owner) (some q.state) none (some .command))) ∧
      (¬holdsChannel x c d → u.channel d = s.channel d)) ∧
    (¬drops → u.etu = s.etu) ∧
    (drops → t.active = false → u.etu = { s.etu with test := { t with owner := none } }) ∧
    (drops → t.active = true → u.etu.gens = s.etu.gens ∧
      u.etu.test = { t with state := .stopped, timer := none, cause := some .command, owner := none } ∧
      ∀ p, u.count p = if s.etu.tested p then (s.count p).ended else s.count p)

/-- What a conclusion that is stored makes of the plan (R142, R151, R152, R155). That the PLAN_STATE of a skip carries the
index of the step skipped is log 87's (DESIGN CHOICE). -/
def State.GoesOn (s u : State) (x : Step) (c : StepCtx) (v : Verdict) (after : After) : Prop :=
  let i := s.ple.position.getD 0
  let p : Ple := { s.ple with susp := none, limitTimer := none, todo := u.ple.todo }
  let halts (k : HaltReason) (reason : PlanReason) : Prop :=
    u.ple = { p with state := .halted, ctx := none, halt := some k, pauseReq := false } ∧ s.TellsPlan u .halted reason
  let starts (st : StepStart) : Prop :=
    (s.ple.pauseReq = false → s.ple.stepMode = false →
      u.ple = { p with state := .running, todo := some (.start st),
                       ctx := some { c with phase := .conclude, phaseTimer := none, measureTimer := none } } ∧
        (s.ple.state = .suspended → s.TellsPlan u .running .skip)) ∧
    (s.ple.pauseReq = true ∨ s.ple.stepMode = true →
      u.ple = { p with state := .paused, ctx := none, pauseReq := false,
                       pauseRec := some { reason := if s.ple.stepMode then .stepped else .pause, next := st,
                                          time := s.recTime, seen := [] } } ∧
        s.TellsPlan u .paused (if s.ple.stepMode then .stepped else .pause))
  let next : Prop :=
    (i + 1 < s.ple.length → starts (s.firstStart (i + 1))) ∧
    (s.ple.length ≤ i + 1 →
      u.ple = { p with state := .complete, ctx := none, pauseReq := false } ∧ s.TellsPlan u .complete .complete)
  (after = .limit → halts .suspensionLimit .suspensionLimit) ∧ (after = .skipped → next) ∧
    (after = .byVerdict → v = .pass → next) ∧
    (after = .byVerdict → v = .fail → (x.onFail = .continueOn → next) ∧ (x.onFail = .stop → halts .onFail .onFail) ∧
      ∀ n, x.onFail = .repeatStep n →
        (0 < c.repeats → starts { index := i, attempt := c.attempt + 1, repeats := c.repeats - 1 }) ∧
        (c.repeats = 0 → halts .onFail .onFail))

/-- A step's conclusion as R133, R134 and R161 give it: its entry is appended, numbered, with the earlier results of its
index superseded and ENTRY_APPENDED posted, or is held with the plan HALTED; what the step held is given back, STEP_DONE is
posted (logs 68 and 90), and the plan goes on. -/
def State.Concludes (s u : State) (x : Step) (c : StepCtx) (r : Result) (after : After) : Prop :=
  let items := if r.items = [] then [plainItem .elapsed c.elapsed .second] else r.items
  let e := s.entryOf x c .stepResult { r with items := items }
  let tells (place : List Field) : Prop := s.TellsDone u x c r.verdict r.reason items place
  (s.acr.storable = true →
    u.acr = s.acr.withEntry e ∧ s.TellsEntry u e ∧ tells (.u 1 0 :: optU 2 (some s.acr.next)) ∧
      s.GoesOn u x c r.verdict after) ∧
  (s.acr.storable = false →
    u.acr = { s.acr with held := some e } ∧ tells (.u 1 1 :: optU 2 none) ∧
      u.ple = { s.ple with susp := none, limitTimer := none, todo := u.ple.todo, state := .halted, ctx := none,
                           halt := some .recordFull, pauseReq := false } ∧ s.TellsPlan u .halted .recordFull) ∧
  ((∀ st, u.ple.todo ≠ some (.start st)) → s.ple.todo = none → u.ple.todo = none) ∧ s.GivesBack u x c ∧ u.blu = s.blu ∧
  u.pfl = s.pfl ∧ u.clock = s.clock ∧ u.pending = s.pending ∧ u.reports = s.reports ∧
  ∀ p, (u.port p).mask = (s.port p).mask ∧ (u.port p).refusal = (s.port p).refusal

/-- A step in progress is suspended for a cause, with further causes that stand at once, as R147, R148 and R170 give it;
`branch` is the one that went OFF. That PLAN_STATE is the newest notice is log 79's (DESIGN CHOICE). -/
def State.Suspends (s u : State) (x : Step) (c : StepCtx) (k : Cause) (rest : List Cause) (branch : Option Branch) : Prop :=
  let far : Bool := k == .remoteMode || k == .peerLoss
  let t := s.etu.test
  let r : SuspRec :=
    { primary := k, causes := k :: rest, index := s.ple.position.getD 0, attempt := c.attempt, phase := c.phase,
      elapsed := c.elapsed, time := s.recTime,
      localTx := if k = .unitMute ∨ k = .txFault then
        some { h := s.tma.driven.h, v := s.tma.driven.v, settle := s.tma.settle } else none,
      farTx := if far then s.pcu.last.map fun f => { h := f.h, v := f.v, settle := f.settle } else none,
      peerTurn := if far then some { peer := s.pcu.peer, turn := s.pcu.turn, silent := s.pcu.silent } else none,
      branch := if k = .sourceLoss then branch else none,
      remaining := if c.held.channel then x.channel.bind fun f => (s.channel f.channel).map ChanRec.remaining else none }
  u.ple = { s.ple with
      state := .suspended, susp := some r, limitTimer := some (1000 * s.pfl.timing.suspLimit), todo := none,
      ctx := some { c with phaseTimer := none, measureTimer := none, suspensions := min 255 (c.suspensions + 1) } } ∧
    (rest = [] → s.TellsPlan u .suspended .suspend) ∧ (rest ≠ [] → u.Notified .suspended r.fields) ∧
    u.Told .suspended r.fields ∧
    u.chu.streams = s.chu.streams ∧ (∀ d, s.channel d = none → u.channel d = none) ∧
    (∀ d q, s.channel d = some q →
      (holdsChannel x c d → q.state = .running →
        let h : ChanRec := { q with state := .halted .suspended, timer := none }
        u.channel d = some h ∧
          u.Told .channelState (channelTold d (some q.owner) (some .running) (some h) (some .suspended))) ∧
      (¬holdsChannel x c d ∨ q.state ≠ .running → u.channel d = some q)) ∧
    (t.owner ≠ some .plan ∨ t.state ≠ .running → u.etu = s.etu) ∧
    (t.owner = some .plan → t.state = .running →
      u.etu.gens = s.etu.gens ∧ u.etu.test = { t with state := .paused, timer := none } ∧
      ∀ p, u.count p = if s.etu.tested p then { s.count p with current := .zero false } else s.count p) ∧
    u.acr = (if x.kind = .handover ∧ s.acr.state = .closing then { s.acr with state := .opened, localDigest := none }
      else s.acr) ∧
    u.tma = s.tma ∧ u.pcu = s.pcu ∧ u.ptu = s.ptu ∧ u.blu = s.blu ∧ u.pfl = s.pfl ∧ u.clock = s.clock ∧
    u.pending = s.pending ∧ u.reports = s.reports ∧ u.draws = s.draws ∧ s.QuietPorts u

/-- Both conditions of R129 hold for a step in a half: its far mode is held and matched, and its local mode is driven and
settled. That the match was formed against that mode is log 20's, and that the turn is not released log 43's (DEDUCED). -/
def State.Ready (s : State) (x : Step) (half : Option Pol) : Prop :=
  (∀ m, x.farModeIn half = some m → s.pcu.req = .holding .plan m false .matched m) ∧
    ∀ m, x.localMode = some m → s.tma.settle = .settled ∧ (s.tma.driven.h, s.tma.driven.v) = m.pair

/-- The plan of a step that waits in PREPARE, its two conditions having been tested (R129): it goes on to SETTLE, a WAIT
step to MEASURE, or waits with the context it has. -/
def State.Tested (u : State) (p : Ple) (x : Step) (d : StepCtx) : Prop :=
  (u.Ready x d.half →
    u.ple = { p with ctx := some { d with phaseTimer := none, reached := (x.farModeIn d.half).isSome },
                     todo := some (if x.kind = .wait then .measure else .settle) }) ∧
    (¬u.Ready x d.half → u.ple = { p with ctx := some d })

/-- The turn of a step that asks for a mode, or for none: its TURN_REQUEST is answered as R110 sets out, and the step
holds its turn where the answer is OK (R128). -/
def State.AsksTurn (s u : State) (asked : Option RequestMode) (held : Bool) (now : Bool) : Prop :=
  let side := asked.bind s.pcu.planAsks
  u.pcu = { s.pcu with req := side.getD s.pcu.req } ∧ now = if asked.isSome then side.isSome else held

/-- The H half of a step that measures both has run its duration (R137): the V half is asked for and prepares. -/
def State.SwitchesHalf (s u : State) (d : StepCtx) : Prop :=
  let asked : Option RequestMode := if d.held.turn = true ∧ s.pcu.req.mode = some .cwV then none else some .cwV
  ∃ now, s.AsksTurn u asked d.held.turn now ∧
    u.ple = { s.ple with
      todo := some .prepare,
      ctx := some { d with half := some .v, elapsed := 0, measureTimer := none, held := { d.held with turn := now } } }

/-- The condition of a WAIT step holds (R154). -/
def State.WaitMet (s : State) (x : Step) : Prop :=
  (x.wait = some .peerPaired ∧ s.pcu.peer = .paired) ∨ (x.wait = some .turnFree ∧ s.pcu.req = .none ∧ s.pcu.grant = none)

/-! ## The laws -/

/-- R174: no port's notice queue holds more than 16 notices. -/
abbrev State.QueueLaw (s : State) : Prop := (s.port .unit).queue.length ≤ 16 ∧ (s.port .installer).queue.length ≤ 16

/-- R161: at most 96 entries, their sequence numbers strictly increasing and below the next one. -/
abbrev State.RecordLaw (s : State) : Prop :=
  s.acr.entries.length ≤ 96 ∧ (s.acr.entries.map Entry.seq).Pairwise (· < ·) ∧ ∀ e ∈ s.acr.entries, e.seq < s.acr.next

/-- R86: no radiation on a muted polarization, and none at all in FAULT. -/
abbrev State.MuteLaw (s : State) : Prop :=
  (s.tma.mute.h = true → s.tma.driven.h = .off) ∧ (s.tma.mute.v = true → s.tma.driven.v = .off) ∧
    (s.tma.settle = .fault → s.tma.driven.h = .off ∧ s.tma.driven.v = .off)

/-- The request sides that may stand beside GRANTED (R105). -/
def RequestSide.besideGrant : RequestSide → Bool
  | .none | .deferred _ _ => true
  | .requesting _ _ | .holding _ _ _ _ _ => false

/-- R91 and R105: the PEER slot holds the granted mode, and this end never requests or holds while it grants. -/
abbrev State.TurnLaw (s : State) : Prop :=
  s.tma.peerSlot = s.pcu.grant ∧ (s.pcu.grant.isSome = true → s.pcu.req.besideGrant = true)

/-- Whether two regions share no entry. -/
abbrev apart (a b : ChanRec) : Prop := a.first + a.length ≤ b.first ∨ b.first + b.length ≤ a.first

/-- R46: every region lies within the store's 2,048 entries, and no two overlap. -/
abbrev State.StoreLaw (s : State) : Prop :=
  (∀ c r, s.channel c = some r → r.first + r.length ≤ 2048) ∧
    ∀ c d r q, c ≠ d → s.channel c = some r → s.channel d = some q → apart r q

/-- R53 for one channel: the stored count plus remaining equals a counted budget; a run in progress still has samples
to store. -/
def ChanRec.countLaw (r : ChanRec) : Prop :=
  match r.budget, r.remaining with
  | some n, some m => r.stored + m = n ∧ n < 16777215 ∧ (r.state = .running ∨ r.state.isHalted = true → 0 < m)
  | none, none => True
  | _, _ => False

/-- R53. -/
abbrev State.CountLaw (s : State) : Prop := ∀ c r, s.channel c = some r → r.countLaw

/-- The intervals a polarization's five terms hold (R76). -/
def CountRec.total (c : CountRec) : Nat :=
  c.totals.clean + c.totals.errored + c.totals.severe + c.totals.outage + c.pend.length

/-- R76: the five terms of a tested polarization equal the intervals completed, and at most 8 intervals are pending. -/
abbrev State.TestLaw (s : State) : Prop :=
  ∀ p, s.etu.tested p = true → (s.count p).total = s.etu.test.completed ∧ (s.count p).pend.length ≤ 8

/-- R147, R148: the suspension record stands exactly while the plan is SUSPENDED, and its cause set contains the primary
cause and no cause twice. -/
abbrev State.SuspensionLaw (s : State) : Prop :=
  (s.ple.susp.isSome = true ↔ s.ple.state = .suspended) ∧ ∀ r, s.ple.susp = some r → r.primary ∈ r.causes ∧ r.causes.Nodup

/-- R155, R156: the pause record stands exactly while the plan is PAUSED, and its seen set holds no cause twice. -/
abbrev State.PauseLaw (s : State) : Prop :=
  (s.ple.pauseRec.isSome = true ↔ s.ple.state = .paused) ∧ ∀ r, s.ple.pauseRec = some r → r.seen.Nodup

/-- R119: the halt reason stands exactly while the plan is HALTED. -/
abbrev State.HaltLaw (s : State) : Prop := s.ple.halt.isSome = true ↔ s.ple.state = .halted

/-- R168: the plan is CLOSED exactly when the record is. -/
abbrev State.ClosedLaw (s : State) : Prop := s.ple.state = .closed ↔ s.acr.state = .closed

/-- R29: a held peak is never below the branch's latest smoothed level. -/
abbrev State.PeakLaw (s : State) : Prop :=
  ∀ b k x, (s.point b).peak = some k → s.seed b = some x → x.smoothed ≤ k.held

/-- R1, R14: a seeded branch's accumulator and corrected level lie in their ranges. -/
def Seed.inRange (x : Seed) : Prop := -307200 ≤ x.acc ∧ x.acc ≤ 0 ∧ -1200 ≤ x.level ∧ x.level ≤ 0

/-- R8: 16 breakpoints, codes strictly increasing up to 4095, levels within −1200 to 0 and not decreasing. -/
def tableLaw (t : List (Nat × Int)) : Prop :=
  t.length = 16 ∧ ordered t = true ∧ ∀ p ∈ t, p.1 ≤ 4095 ∧ -1200 ≤ p.2 ∧ p.2 ≤ 0

/-- R1: the ranges of a branch record. -/
def BranchRec.inRange (r : BranchRec) : Prop :=
  tableLaw r.table ∧ -200 ≤ r.slope ∧ r.slope ≤ 200 ∧ r.shift ≤ 7 ∧ ∀ x, r.seed = some x → x.inRange

/-- R1, R2: every branch record and the held temperature lie in their ranges; seeded is yes only for an ACTIVE branch,
and ACTIVE only a fitted one. -/
abbrev State.LevelLaw (s : State) : Prop :=
  (∀ b, (s.branch b).inRange ∧ ((s.branch b).seed.isSome = true → (s.branch b).active = true) ∧
    ((s.branch b).active = true → (s.branch b).fitted = true)) ∧
    -55 ≤ s.blu.temp.held ∧ s.blu.temp.held ≤ 125

/-- A property that every step keeps. -/
def Kept (P : State → Prop) : Prop := ∀ s t, P s → step s = .next t → P t

end Sys2Proof.Machine
end

