-- ==== Sys2Proof/WellFormed.lean ====
section
/-! DEFINITION. Which commands the outside can give: operands within what the wires and the payload layouts can carry
(R5, R176, R178, R183, R191). A command that is not well-formed still has a meaning (log 40). -/

namespace Sys2Proof

def isByte (n : Nat) : Bool := decide (n < 2 ^ 8)
def isWord (n : Nat) : Bool := decide (n < 2 ^ 16)
def isLong (n : Nat) : Bool := decide (n < 2 ^ 32)
def isSigned (v : Int) : Bool := decide (-(2 ^ 15) ≤ v) && decide (v < 2 ^ 15)

/-- A field that may be absent. -/
def optional {α : Type} (ok : α → Bool) : Option α → Bool
  | none => true
  | some x => ok x

/-- A request frame's header gives its payload length in two bytes (R183). -/
def ReqFrame.wellFormed (f : ReqFrame) : Bool := isWord f.declared

/-- The fields of a BIND (R47, R178). -/
def BindArgs.wellFormed (a : BindArgs) : Bool :=
  isByte a.channel && isByte a.quantity && isByte a.source && isByte a.scale && isWord a.interval &&
    decide (a.budget < 2 ^ 24) && isByte a.pageSize && isByte a.pageCount && isByte a.policy && isByte a.hold

def RawChannel.wellFormed (c : RawChannel) : Bool :=
  isByte c.channel && isByte c.quantity && isByte c.source && isByte c.scale && isWord c.interval

/-- An unsigned limit member of a width. -/
def isUnsigned (bound : Nat) (v : Int) : Bool := decide (0 ≤ v) && decide (v < bound)

/-- The limit members: differences are signed, counts are not (R121, R178). -/
def RawLimits.wellFormed (x : RawLimits) : Bool :=
  optional isSigned x.tolerance && optional isSigned x.windowBelow && optional isSigned x.windowAbove &&
    optional isSigned x.minXpd && optional isSigned x.maxDiff && optional (isUnsigned (2 ^ 32)) x.errored &&
    optional (isUnsigned (2 ^ 32)) x.severe && optional (isUnsigned (2 ^ 32)) x.outage && optional isSigned x.minFade &&
    optional (isUnsigned (2 ^ 32)) x.maxBelow && optional (isUnsigned (2 ^ 16)) x.maxEvents

/-- A step entry (R120, R178). -/
def RawStep.wellFormed (x : RawStep) : Bool :=
  isByte x.kind && optional (fun ns => isByte ns.length && ns.all isByte) x.branches && optional isByte x.pol &&
    optional isLong x.duration && optional isByte x.farMode && optional isByte x.locMode && x.limits.wellFormed &&
    optional RawChannel.wellFormed x.channel && isByte x.onFail && isByte x.repeats && isWord x.label &&
    optional isByte x.wait

/-- The number that two bytes spell, most significant first. -/
def pairNat (hi lo : Byte) : Nat := hi.toNat * 256 + lo.toNat

/-- An image that was read whole: its header passed conditions 1 and 2 of R190, and gives the length that was read. -/
def wholeImage : List Byte → Bool
  | b0 :: hi :: lo :: rest =>
    decide (b0 = 0x5B) && decide (7 ≤ pairNat hi lo) && decide (pairNat hi lo ≤ 1024) &&
      decide (rest.length + 3 = pairNat hi lo)
  | _ => false

/-- Five header bytes that fail condition 1 or 2 of R190. -/
def rejectedHeader : List Byte → Bool
  | [b0, hi, lo, _, _] => decide (b0 ≠ 0x5B) || decide (pairNat hi lo < 7) || decide (1024 < pairNat hi lo)
  | _ => false

/-- A command that the outside can give. -/
def Instr.wellFormed : Instr → Bool
  | .powerOn _ _ => true
  | .profileReadComplete image => wholeImage image
  | .memoryHeaderReject header => rejectedHeader header
  | .memoryNoAnswer | .memoryStall => true
  | .detectorSample _ code _ => decide (code < 2 ^ 12)
  | .doubleBurstEnd | .freshnessExpiry | .intervalExpiry _ | .testBlock _ _ | .testIntervalExpiry => true
  | .settleReport change => isByte change
  | .settleTimeout | .composition | .peerFrame _ | .silenceExpiry | .holdExpiry => true
  | .prepareLimitExpiry | .settleLimitExpiry | .measureExpiry | .suspensionLimitExpiry => true
  | .presenceLoss | .presenceAttach | .unitPortRead _ | .installerFrameSent | .installerBusRead _ => true
  | .noticeAcknowledge | .frameGapTimeout | .frameRestartDiscard => true
  | .unknownRequest f code => f.wellFormed && isByte code && (decide (code = 0) || decide (0x3B < code))
  | .partReset => true
  | .branchStatus f => f.wellFormed
  | .readValue f quantity branch scale => f.wellFormed && isByte quantity && isByte branch && isByte scale
  | .pointingStatus f => f.wellFormed
  | .channelStatus f channel => f.wellFormed && isByte channel
  | .nextSegment f | .testStatus f | .txStatus f | .peerStatus f => f.wellFormed
  | .readSteps f start count => f.wellFormed && isByte start && isByte count
  | .planStatus f | .recordStatus f => f.wellFormed
  | .readEntries f first count => f.wellFormed && isWord first && isByte count
  | .portStatus f | .profileStatus f => f.wellFormed
  | .resetPeak f target => f.wellFormed && isByte target
  | .setPointing f branch => f.wellFormed && isByte branch
  | .bind f args => f.wellFormed && args.wellFormed
  | .run f channel | .halt f channel | .resume f channel | .flush f channel | .unbind f channel =>
    f.wellFormed && isByte channel
  | .openStream f quantum => f.wellFormed && optional isByte quantum
  | .closeStream f => f.wellFormed
  | .join f channel | .leave f channel => f.wellFormed && isByte channel
  | .startTest f pols duration severe => f.wellFormed && isByte pols && isLong duration && optional isByte severe
  | .stopTest f => f.wellFormed
  | .txRequest f mode => f.wellFormed && isByte mode
  | .txRelease f => f.wellFormed
  | .turnRequest f mode => f.wellFormed && isByte mode
  | .turnRelease f => f.wellFormed
  | .loadSteps f start entries =>
    f.wellFormed && isByte start && isByte entries.length && entries.all RawStep.wellFormed &&
      (!f.fits || !entries.isEmpty)
  | .setPlanLength f length => f.wellFormed && isByte length
  | .runPlan f start => f.wellFormed && optional isByte start
  | .stopPlan f | .acceptPeak f | .forceAccept f | .abortStep f | .continueStep f | .restartStep f | .skipStep f
  | .resumeNext f | .pause f => f.wellFormed
  | .setStepMode f mode => f.wellFormed && isByte mode
  | .resumePlan f => f.wellFormed
  | .setNoticeMask f _ => f.wellFormed
  | .resetPlan f => f.wellFormed
  | .setBranch f branch state => f.wellFormed && isByte branch && isByte state
  | .setTemperature f celsius => f.wellFormed && isSigned celsius
  | .setMute f _ => f.wellFormed
  | .setTxPower f power => f.wellFormed && isSigned power
  | .clearTxFault f => f.wellFormed
  | .waive f seq => f.wellFormed && isWord seq
  | .purgeSuperseded f | .reopen f => f.wellFormed
  | .loadProfile f image => f.wellFormed && decide (image.length = f.carried)
  | .setEpoch f _ => f.wellFormed
  | .resetPart f => f.wellFormed

end Sys2Proof
end

