-- ==== Sys2Proof/Certificates/Slice0/Obligations.lean ====
section
/-! DEFINITION. The statements for the provers. Each says in its docstring which rule of spec/ it formalises; what rests
on a choice of the model names the log entry. `Completes` says that a command answers with a next state, and what that
state holds; `Reacts` says the same of the command's own effect, to which the plan engine then reacts. -/

open Sys2Proof Sys2Proof.Machine

/-! ## Steps and reset -/

/-- A step takes the command at the front of the queue and runs it with the queue's rest, and no command reaches the
queue, which is the model's own (log 6). -/
def Obligations.StepTakesTheFront : Prop :=
  (∀ (c : Instr) (rest : List Instr) (s : State), s.pending = c :: rest → step s = exec c (s.setPending rest)) ∧
    ∀ (i : Instr) (s t : State), exec i s = .next t → t.pending = s.pending

/-- The expiries of a millisecond in the order in which they are taken (log 10): when each is due, and its command. -/
def expiries : List ((State → Bool) × Instr) :=
  [(fun s => s.ptu.burst == some 0, .doubleBurstEnd), (fun s => s.blu.temp.timer == some 0, .freshnessExpiry)] ++
    (allChannels.map fun c => (fun s => ((s.channel c).bind ChanRec.timer) == some 0, .intervalExpiry c)) ++
    [(fun s => s.etu.test.timer == some 0, .testIntervalExpiry), (fun s => s.tma.timer == some 0, .settleTimeout),
     (fun s => s.pcu.compTimer == some 0, .composition), (fun s => s.pcu.silence == some 0, .silenceExpiry),
     (fun s => s.pcu.hold == some 0, .holdExpiry), (fun s => s.phaseDue .prepare, .prepareLimitExpiry),
     (fun s => s.phaseDue .settle, .settleLimitExpiry),
     (fun s => (s.ple.ctx.bind StepCtx.measureTimer) == some 0, .measureExpiry),
     (fun s => s.ple.limitTimer == some 0, .suspensionLimitExpiry), (fun s => s.pif.resetDue, .partReset)]

/-- With no command waiting a step is one millisecond (DESIGN CHOICE, log 7): the counters of R195 go on and wrap at 32
bits, a second being 1,000 ms (log 29); every running timer comes one millisecond nearer to its end and nothing else
changes but the cadence's position (R39) and the generators, which deliver a free number of blocks (log 24); then each
timer that has run out is taken by the meaning of its own command, in the order of log 10. -/
def Obligations.IdleStepIsOneMillisecond : Prop :=
  (∀ s : State, s.pending = [] → Completes (step s) fun t =>
    t = expiries.foldl (fun u e => if e.1 u then after u (exec e.2 u) else u) s.advance ∧
      t.pending = [] ∧ t.clock.ms = (s.clock.ms + 1) % 2 ^ 32 ∧
      (s.clock.sub < 999 → t.clock.sec = s.clock.sec ∧ t.clock.sub = s.clock.sub + 1) ∧
      (999 ≤ s.clock.sub → t.clock.sec = (s.clock.sec + 1) % 2 ^ 32 ∧ t.clock.sub = 0)) ∧
  ∀ s : State,
    let near (t : Timer) : Timer := t.map (· - 1)
    let gen (p : Pol) : Generator :=
      let g := s.etu.gens.get p
      let x := emitBlocks (Config.patternBlocks s.clock.ms p) g.reg
      if g.running then { g with reg := x.2, delivered := x.1 } else g
    s.advance =
      { s with
        blu := { s.blu with temp := { s.blu.temp with timer := near s.blu.temp.timer } },
        ptu := { s.ptu with cadencePhase := (s.ptu.cadencePhase + 1) % 1000, burst := near s.ptu.burst },
        chu := { s.chu with channels := s.chu.channels.map fun c => c.map fun r => { r with timer := near r.timer } },
        etu := { s.etu with test := { s.etu.test with timer := near s.etu.test.timer }, gens := { h := gen .h, v := gen .v } },
        tma := { s.tma with timer := near s.tma.timer },
        pcu := { s.pcu with compTimer := near s.pcu.compTimer, silence := near s.pcu.silence, hold := near s.pcu.hold },
        ple := { s.ple with
          ctx := s.ple.ctx.map fun c => { c with phaseTimer := near c.phaseTimer, measureTimer := near c.measureTimer },
          limitTimer := near s.ple.limitTimer },
        clock := s.advance.clock }

/-- The values after reset that the chapters give (R19, R41, R65, R83, R96, R118, R126, R158, R173, R174, R187, R195). -/
def Obligations.ResetValues : Prop :=
  let s := State.reset
  (∀ b, (s.branch b).active = false ∧ s.seed b = none ∧ s.point b = PointRec.powerOn ∧ s.pcu.out.get b = none) ∧
    s.blu.temp = { held := 25, status := .unset, timer := none } ∧
    s.ptu.far = ⟨.nominal, .nominal⟩ ∧ s.ptu.pointing = .mh ∧ s.ptu.voltage = 0 ∧ s.ptu.cadence = .silent ∧
    s.ptu.burst = none ∧
    (∀ c, s.channel c = none) ∧ (∀ p, s.stream p = none) ∧
    s.etu.test = { state := .idle, owner := none, setup := none, completed := 0, cause := none, timer := none } ∧
    (∀ p, (s.count p).sync = .hunt ∧ (s.count p).good = 0 ∧ (s.count p).bad = 0 ∧ (s.count p).reg = BitVec.allOnes 15 ∧
      (s.count p).current = .zero false ∧ (s.count p).outage = false ∧ (s.count p).pend = [] ∧
      (s.count p).totals = .zero ∧ (s.etu.gens.get p).running = false ∧
      (s.etu.gens.get p).reg = BitVec.allOnes 15) ∧
    s.tma.peerSlot = none ∧ s.tma.planSlot = none ∧ s.tma.instSlot = none ∧ s.tma.mute = ⟨false, false⟩ ∧
    s.tma.winner = .default ∧ s.tma.driven = { h := .traffic, v := .traffic, freeze := none } ∧ s.tma.change = 0 ∧
    s.tma.settle = .settling ∧ s.tma.timer = none ∧ s.tma.power = none ∧
    s.pcu.phase = false ∧ s.pcu.compTimer = none ∧ s.pcu.last = none ∧ s.pcu.silence = none ∧ s.pcu.hold = none ∧
    s.pcu.peer = .solo ∧ s.pcu.turn = .none ∧ s.pcu.silent = false ∧
    s.ple.table = List.replicate 32 none ∧ s.ple.length = 0 ∧ s.ple.state = .idle ∧ s.ple.stepMode = false ∧
    s.ple.pauseReq = false ∧ s.ple.position = none ∧ s.ple.ctx = none ∧ s.ple.susp = none ∧ s.ple.pauseRec = none ∧
    s.ple.limitTimer = none ∧
    s.acr = { entries := [], state := .opened, next := 1, localDigest := none, peerDigest := none, echo := none,
              held := none } ∧
    (∀ p, (s.port p).inService = none ∧ (s.port p).response = none ∧ (s.port p).refusal = none ∧
      (s.port p).queue = [] ∧ (s.port p).overflow = false) ∧
    (s.port .unit).mask = 0x0FFF ∧ (s.port .installer).mask = 0 ∧
    s.pfl.status = .reading ∧ s.pfl.crc = none ∧ s.pfl.rejection = none ∧ s.pfl.epoch = none ∧
    s.clock.ms = 0 ∧ s.clock.sec = 0 ∧ s.pending = []

/-- Every law holds after reset. -/
def Obligations.ResetKeepsTheLaws : Prop :=
  let s := State.reset
  s.QueueLaw ∧ s.RecordLaw ∧ s.MuteLaw ∧ s.TurnLaw ∧ s.StoreLaw ∧ s.CountLaw ∧ s.TestLaw ∧ s.SuspensionLaw ∧
    s.PauseLaw ∧ s.HaltLaw ∧ s.ClosedLaw ∧ s.PeakLaw ∧ s.LevelLaw

/-! ## The laws, kept by every step -/

/-- R174: no port's notice queue ever holds more than 16 notices. -/
def Obligations.QueueLawKept : Prop := Kept State.QueueLaw

/-- R161: the record never holds more than 96 entries, and their numbers strictly increase. -/
def Obligations.RecordLawKept : Prop := Kept State.RecordLaw

/-- R86: nothing is radiated on a muted polarization, and nothing at all in FAULT. -/
def Obligations.MuteLawKept : Prop := Kept State.MuteLaw

/-- R105 with R91: the PEER slot holds the granted mode, and this end never requests or holds while it grants; an end
whose record is CLOSING or CLOSED never enters GRANTED. -/
def Obligations.TurnLawKept : Prop :=
  Kept State.TurnLaw ∧
    ∀ s t : State, step s = .next t → s.acr.state ≠ .opened → s.pcu.grant = none → t.pcu.grant = none

/-- R46: the channels' regions lie in the store and do not overlap, so that they never sum to more than 2,048 entries. -/
def Obligations.StoreLawKept : Prop :=
  Kept State.StoreLaw ∧
    ∀ s : State, s.StoreLaw → (allChannels.map fun c => ((s.channel c).map ChanRec.length).getD 0).sum ≤ 2048

/-- R53: the stored count plus remaining equals a counted budget. -/
def Obligations.CountLawKept : Prop := Kept State.CountLaw

/-- R76: the five terms of a tested polarization equal the intervals completed. -/
def Obligations.TestLawKept : Prop := Kept State.TestLaw

/-- R147, R148, R155, R156, R119 and R168: the plan is CLOSED exactly when the record is; the suspension record, the
pause record and the halt reason stand exactly in their plan states; the cause set contains the primary cause, and
neither set holds a cause twice. -/
def Obligations.PlanRecordLawsKept : Prop :=
  Kept State.ClosedLaw ∧ Kept fun s => s.SuspensionLaw ∧ s.PauseLaw ∧ s.HaltLaw ∧ s.ClosedLaw

/-- R1, R2, R8, R10, R14 and R29: the branch records and the held temperature stay in their ranges, whatever image is
loaded and whatever code a detector gives, and a held peak is never below the branch's latest smoothed level. -/
def Obligations.LevelLawsKept : Prop := Kept State.LevelLaw ∧ Kept State.PeakLaw

/-! ## Whole-machine rules -/

/-- R176 and R177, checks 1 to 3, for every request of either port: while no meter is attached, or while the receiver
disregards bytes on mode 0, a frame of the installer port changes nothing; BUSY is held and counted, STARTING answers
before the first profile, and BAD_LENGTH changes nothing but the receiver. -/
def Obligations.RequestScreening : Prop :=
  ∀ (i : Instr) (f : ReqFrame) (code : Nat) (s : State), i.request = some (f, code) → s.Settled →
    (s.disregards f = true → exec i s = .next s) ∧
    (s.disregards f = false → (s.port f.port).inService.isSome = true → Completes (exec i s) fun t =>
      t = s.setPif t.pif ∧ (t.port f.port).inService = (s.port f.port).inService ∧
        (t.port f.port).response = (s.port f.port).response ∧
        ((s.port f.port).refusal = none → (t.port f.port).refusal = some { echo := code, count := 1 }) ∧
        (∀ x, (s.port f.port).refusal = some x →
          (t.port f.port).refusal = some { x with count := satSucc 255 x.count })) ∧
    (s.disregards f = false → (s.port f.port).inService = none → s.pfl.status = .reading →
      Completes (exec i s) fun t => s.Answers t f.port code { status := .starting }) ∧
    (s.disregards f = false → (s.port f.port).inService = none → s.pfl.status ≠ .reading →
      (badLength f = true ∨ (f.fits = false ∧ ∀ n, i ≠ .unknownRequest f n)) → Completes (exec i s) fun t =>
      t = s.setPif t.pif ∧ (t.port f.port).inService = some code ∧
        (t.port f.port).response = some (Reply.response { status := .badLength } code) ∧
        t.pif.resync = (match f.port with
          | .unit => s.pif.resync
          | .installer => s.unprompted))

/-- R179: from the installer port, the last eleven requests are answered NOT_PERMITTED and change nothing; once the record
is CLOSED, the installer port changes nothing but its own port, and the stream it empties, and the requests from
RESET_PEAK to RESET_PLAN are answered CLOSED. -/
def Obligations.InstallerPortIsBound : Prop :=
  (∀ (i : Instr) (f : ReqFrame) (code : Nat) (s : State), i.request = some (f, code) → i.wellFormed = true →
    0x31 ≤ code → code ≤ 0x3B → f.port = .installer → s.Serves f → s.Settled →
    Completes (exec i s) fun t => s.Answers t .installer code { status := .notPermitted }) ∧
  ∀ (i : Instr) (f : ReqFrame) (code : Nat) (s t : State), i.request = some (f, code) → i.wellFormed = true →
    f.port = .installer → s.acr.state = .closed → s.Settled → exec i s = .next t →
    (t = s.setPif t.pif ∨ (code = 0x05 ∧ t = (s.setChu t.chu).setPif t.pif)) ∧
      (s.Serves f → 0x0F ≤ code → code ≤ 0x30 → s.Answers t .installer code { status := .closed })

/-- What the plan engine's reaction to a command leaves: the branch levels, the profile, the clock, the queue, the
presence state, and each port's service, response, refusal and mask (log 21, log 22). -/
def Obligations.PlanEngineReach : Prop :=
  ∀ s : State, (react s).blu = s.blu ∧ (react s).pfl = s.pfl ∧ (react s).clock = s.clock ∧
    (react s).pending = s.pending ∧ (react s).reports = [] ∧ (react s).etu.gens = s.etu.gens ∧
    (react s).chu.streams = s.chu.streams ∧ (react s).pif.present = s.pif.present ∧
    (react s).pif.resetDue = s.pif.resetDue ∧
    ∀ p, ((react s).port p).inService = (s.port p).inService ∧ ((react s).port p).response = (s.port p).response ∧
      ((react s).port p).refusal = (s.port p).refusal ∧ ((react s).port p).mask = (s.port p).mask

/-! ## Formats and arithmetic -/

/-- R184, R100: a peer frame whose fields lie in their ranges is read back whole from its 48 bytes. -/
def Obligations.PeerFramesAreReadBack : Prop :=
  ∀ f : PeerFrame, f.linkId < 2 ^ 16 → -(2 ^ 15) ≤ f.power → f.power < 2 ^ 15 →
    (∀ b v flags, f.levels.get b = some (v, flags) → -1200 ≤ v ∧ v ≤ 0) → (f.ind = .none → f.digest = 0) →
    f.bytes.length = 48 ∧ PeerFrame.parse f.bytes = some f

/-- The code and the level of a breakpoint. -/
def codeAt (t : List (Nat × Int)) (i : Nat) : Nat := (t.getD i (0, 0)).1

def levelAt (t : List (Nat × Int)) (i : Nat) : Int := (t.getD i (0, 0)).2

/-- R9: the three cases of the calibration lookup, and the bounds the rule draws from them; a sample without its lock
takes the level of the first breakpoint, below range (R6). -/
def Obligations.LookupRule : Prop :=
  ∀ (t : List (Nat × Int)) (d : Nat), tableLaw t →
    (d < codeAt t 0 → lookup t d = { level := levelAt t 0, below := true, above := false }) ∧
    (codeAt t 15 ≤ d → lookup t d = { level := levelAt t 15, below := false, above := true }) ∧
    (∀ i, i < 15 → codeAt t i ≤ d → d < codeAt t (i + 1) →
      let product : Int := ((d : Int) - codeAt t i) * (levelAt t (i + 1) - levelAt t i)
      let between : Int := levelAt t i + product / ((codeAt t (i + 1) : Int) - codeAt t i)
      lookup t d = { level := between, below := false, above := false } ∧
        0 ≤ product ∧ product ≤ 4914000 ∧ levelAt t i ≤ (lookup t d).level ∧ (lookup t d).level ≤ levelAt t (i + 1)) ∧
    (∀ i, i < 15 → d = codeAt t i → (lookup t d).level = levelAt t i) ∧
    -1200 ≤ (lookup t d).level ∧ (lookup t d).level ≤ 0 ∧
    lookupUnlocked t = { level := levelAt t 0, below := true, above := false }

/-- R12: the correction's rounding and bounds, the clamp, and that the corrected level is what a sample stores and
smooths, with the range flags of its lookup. -/
def Obligations.CorrectionRule : Prop :=
  (∀ slope temp : Int, -200 ≤ slope → slope ≤ 200 → -55 ≤ temp → temp ≤ 125 →
    let n := slope * (temp - 25)
    let c := correction slope temp
    (-20000 ≤ n ∧ n ≤ 20000) ∧ -200 ≤ c ∧ c ≤ 200 ∧ (0 ≤ n → 100 * c - 50 ≤ n ∧ n < 100 * c + 50) ∧
      (n < 0 → 100 * c - 50 < n ∧ n ≤ 100 * c + 50) ∧
      ∀ l : Int, (l + c < -1200 → corrected slope temp l = -1200) ∧ (0 < l + c → corrected slope temp l = 0) ∧
        (-1200 ≤ l + c → l + c ≤ 0 → corrected slope temp l = l + c)) ∧
  (∀ (s : State) (r : BranchRec) (code : Nat) (lock : Bool),
    let l := if lock then lookup r.table code else lookupUnlocked r.table
    let x := s.convert r code lock
    x.level = corrected r.slope s.blu.temp.held l.level ∧ x.acc = smooth r.shift x.level (r.seed.map Seed.acc) ∧
      x.flags.belowRange = l.below ∧ x.flags.aboveRange = l.above) ∧
  ∀ (s : State) (b : Branch) (x : Seed), s.seed b = some x →
    s.figure (.level b) = some { value := x.level, flags := x.flags, time := x.time }

/-- R14 and R15: the accumulator's floor, its bounds and its approach from either side; the two readings and their
ranges. An accumulator that holds nothing yet is set to 256 times the level (R13). -/
def Obligations.SmoothingRule : Prop :=
  (∀ (k : Nat) (x a : Int), k ≤ 7 → -1200 ≤ x → x ≤ 0 → -307200 ≤ a → a ≤ 0 →
    let n := smooth k x (some a)
    n = a + (256 * x - a) / (2 ^ k : Nat) ∧ min a (256 * x) ≤ n ∧ n ≤ max a (256 * x) ∧ -307200 ≤ n ∧ n ≤ 0 ∧
      (256 * x < a → n < a) ∧ (0 ≤ 256 * x - a → 256 * x - a < (2 ^ k : Nat) → n = a ∧ coarse n = x)) ∧
  (∀ a : Int, -307200 ≤ a → a ≤ 0 → coarse a = (a + 128) / 256 ∧ fine a = (a * 10 + 128) / 256 ∧ -1200 ≤ coarse a ∧
    coarse a ≤ 0 ∧ -12000 ≤ fine a ∧ fine a ≤ 0) ∧
  (∀ (k : Nat) (x : Int), smooth k x none = 256 * x) ∧
  ∀ (s : State) (b : Branch), s.seed b = none → s.smoothed b = none ∧ s.figure (.smoothed b true) = none

/-- A pending run as R74 and R75 describe it: SEVERE intervals while AVAILABLE, the other classes in OUTAGE. -/
def pendLaw (c : CountRec) : Prop := ∀ k ∈ c.pend, (k = .severe ↔ c.outage = false)

/-- R72, R74 and R75: the class of a closing interval, and the outage bookkeeping, row by row, with the runs' contents. -/
def Obligations.ClassAndOutageRule : Prop :=
  (∀ (i : Interval) (percent : Nat),
    let severe := i.blocks = 0 ∨ i.hunt = true ∨ i.blocks * percent ≤ i.errored * 100
    (i.classOf percent = .severe ↔ severe) ∧ (i.classOf percent = .errored ↔ ¬severe ∧ 1 ≤ i.errored) ∧
      (i.classOf percent = .clean ↔ ¬severe ∧ i.errored = 0)) ∧
  ∀ (c : CountRec) (k : IntervalClass), pendLaw c → c.pend.length ≤ 7 →
    pendLaw (c.book k) ∧
    (c.outage = false → k = .severe → c.pend.length ≤ 6 → c.book k = { c with pend := c.pend ++ [k] }) ∧
    (c.outage = false → k = .severe → c.pend.length = 7 →
      c.book k = { c with outage := true, totals := { c.totals with outage := c.totals.outage + 8 }, pend := [] }) ∧
    (c.outage = false → k = .errored →
      c.book k = { c with totals := { c.totals with severe := c.totals.severe + c.pend.length,
                                                    errored := c.totals.errored + 1 }, pend := [] }) ∧
    (c.outage = false → k = .clean →
      c.book k = { c with totals := { c.totals with severe := c.totals.severe + c.pend.length,
                                                    clean := c.totals.clean + 1 }, pend := [] }) ∧
    (c.outage = true → k ≠ .severe → c.pend.length ≤ 6 → c.book k = { c with pend := c.pend ++ [k] }) ∧
    (c.outage = true → k ≠ .severe → c.pend.length = 7 →
      c.book k = { c with outage := false, pend := [],
                          totals := { c.totals with clean := c.totals.clean + (c.pend ++ [k]).count .clean,
                                                    errored := c.totals.errored + (c.pend ++ [k]).count .errored } }) ∧
    (c.outage = true → k = .severe →
      c.book k = { c with totals := { c.totals with outage := c.totals.outage + c.pend.length + 1 }, pend := [] })

/-- R46 and R61. The region a BIND takes is the lowest run of free entries that is long enough, and the largest free run is
as long as the longest that would fit; the entries in use are those of the channels' regions. The export arbiter stays
with its current channel within the quantum, and otherwise goes once round from the channel after it to the first member
with a READY page. -/
def Obligations.FirstFitAndArbiterRules : Prop :=
  (∀ (regions : List (Nat × Nat)) (len : Nat),
    let free (p : Nat) : Prop := p + len ≤ 2048 ∧ ∀ r ∈ regions, p + len ≤ r.1 ∨ r.1 + r.2 ≤ p
    (∀ p, firstFit regions len = some p → free p ∧ ∀ q, q < p → ¬free q) ∧
      (firstFit regions len = none → ∀ q, ¬free q) ∧
      ((∀ r ∈ regions, 0 < r.2) →
        (len = largestRun regions → 0 < len → ∃ p, free p) ∧ (largestRun regions < len → ∀ p, ¬free p))) ∧
  (∀ (s : State) (skip : Option (Fin 8)) (x : Nat × Nat), x ∈ s.chu.regions skip ↔
    ∃ c r, skip ≠ some c ∧ s.channel c = some r ∧ x = (r.first, r.pageCount * r.pageSize)) ∧
  ∀ (s : State) (p : Port) (x : StreamRec),
    let starts (n : Nat) : Nat := match x.current with
      | some c => c.val + 1 + n
      | none => n
    let place (n : Nat) : Fin 8 := Fin.ofNat 8 (starts n)
    (∀ c, s.offers p c = true ↔
      ∃ r, s.channel c = some r ∧ r.stream = some p ∧ ∃ hdr es, (.ready hdr es : Page) ∈ r.pages) ∧
    (∀ c, x.current = some c → s.offers p c = true → x.run < x.quantum →
      s.chooseChannel p x = some (c, { x with run := x.run + 1 })) ∧
    ((∀ c, x.current = some c → s.offers p c = false ∨ x.quantum ≤ x.run) →
      (∀ n, n < 8 → s.offers p (place n) = true → (∀ k, k < n → s.offers p (place k) = false) →
        s.chooseChannel p x = some (place n, { x with current := some (place n), run := 1 })) ∧
      ((∀ c, s.offers p c = false) → s.chooseChannel p x = none))

/-- A mean of so many values, rounded half away from zero (R134). -/
def meanOf (sum : Int) (count : Nat) (m : Int) : Prop :=
  (0 ≤ sum → 2 * m * count - count ≤ 2 * sum ∧ 2 * sum < 2 * m * count + count) ∧
    (sum < 0 → 2 * m * count - count < 2 * sum ∧ 2 * sum ≤ 2 * m * count + count)

/-- R134 and R136 to R140: what a measure second adds to each kind's figures, the means formed of them, and each kind's
verdict, reason and items at its duration. What the AT_LEAST and UNCAL of several seconds give is log 26's (DEDUCED), and
that UNCAL reaches SOAK's two counts and not SECONDS_COUNTED log 86's (DESIGN CHOICE). -/
def Obligations.VerdictRules : Prop :=
  (∀ (sum : Int) (n : Nat), (n = 0 → mean sum n = none) ∧ (0 < n → ∃ m, mean sum n = some m ∧ meanOf sum n m)) ∧
  (∀ (s : State) (x : Step) (half : Option Pol) (l : Resolved) (a : Acc), x.branches.Nodup →
    let n := s.second x half l a
    let level (b : Branch) (r : LevelAcc) : LevelAcc := match s.seed b, (s.point b).pred with
      | some v, .level p nominal =>
        { levelSum := r.levelSum + v.smoothed, predSum := r.predSum + p, count := r.count + 1,
          nominal := r.nominal || nominal, uncal := r.uncal || v.flags.uncal }
      | _, _ => r
    let xpd (p : Pol) (r : XpdAcc) : XpdAcc := match s.figure (.xpd p) with
      | some f => { sum := r.sum + f.value, count := r.count + 1, atLeast := r.atLeast || f.atLeast,
                    uncal := r.uncal || f.flags.uncal }
      | none => r
    let div (p : Pol) (r : DivAcc) : DivAcc := match s.figure (.divDiff p) with
      | some f => { signed := r.signed + f.value, magn := r.magn + max f.value (-f.value), count := r.count + 1,
                    uncal := r.uncal || f.flags.uncal }
      | none => r
    let soak (b : Branch) (r : SoakAcc) : SoakAcc := match s.figure (.fadeMargin b), s.smoothed b with
      | some f, some v =>
        let below : Bool := decide (f.value < (l.minFade : Int))
        { range := some (match r.range with
            | some (lo, hi) => (min lo v, max hi v)
            | none => (v, v)),
          below := if below then r.below + 1 else r.below,
          events := if below = true ∧ r.flag = false then r.events + 1 else r.events, flag := below,
          count := r.count + 1, uncal := r.uncal || f.flags.uncal }
      | _, _ => r
    (x.kind = .level → n = { a with level := n.level } ∧
      ∀ b, n.level.get b = if b ∈ x.branches then level b (a.level.get b) else a.level.get b) ∧
    (x.kind = .xpd → n = { a with xpd := n.xpd } ∧
      ∀ p, n.xpd.get p = if half = some p then xpd p (a.xpd.get p) else a.xpd.get p) ∧
    (x.kind = .diversity → n = { a with div := n.div } ∧
      ∀ p, n.div.get p = if Pol.main p ∈ x.branches ∧ Pol.div p ∈ x.branches then div p (a.div.get p) else a.div.get p) ∧
    (x.kind = .soak → n = { a with soak := n.soak } ∧
      ∀ b, n.soak.get b = if b ∈ x.branches then soak b (a.soak.get b) else a.soak.get b) ∧
    (x.kind = .align ∨ x.kind = .errtest ∨ x.kind = .wait ∨ x.kind = .handover → n = a)) ∧
  ∀ (s : State) (x : Step) (c : StepCtx),
    let r := s.resultOf x c
    let l := c.limits
    let verdict (noData within : Prop) : Prop :=
      (noData → r.verdict = .fail ∧ r.reason = some .noData) ∧ (¬noData → within → r.verdict = .pass ∧ r.reason = none) ∧
        (¬noData → ¬within → r.verdict = .fail ∧ r.reason = some .limit)
    let level (b : Branch) : LevelAcc := c.acc.level.get b
    let mOf (b : Branch) : Int := (mean (level b).levelSum (level b).count).getD 0
    let dOf (b : Branch) : Int := mOf b - (mean (level b).predSum (level b).count).getD 0
    let xpd (p : Pol) : XpdAcc := c.acc.xpd.get p
    let div (p : Pol) : DivAcc := c.acc.div.get p
    let soak (b : Branch) : SoakAcc := c.acc.soak.get b
    let halves : List Pol := match x.pols with
      | none => []
      | some .h => [.h]
      | some .v => [.v]
      | some .both => [.h, .v]
    let pairs : List Pol := [Pol.h, Pol.v].filter fun p => Pol.main p ∈ x.branches ∧ Pol.div p ∈ x.branches
    (x.kind = .level →
      verdict (∃ b ∈ x.branches, (level b).count = 0)
        (∀ b ∈ x.branches, -(l.windowBelow : Int) ≤ dOf b ∧ dOf b ≤ (l.windowAbove : Int)) ∧
      r.items = x.branches.flatMap fun b => if (level b).count = 0 then [] else
        [{ code := .meanLevel, place := .branch b, value := mOf b, scale := .db10, nominal := (level b).nominal,
           uncal := (level b).uncal },
         { code := .deviation, place := .branch b, value := dOf b, scale := .db10, nominal := (level b).nominal,
           uncal := (level b).uncal }]) ∧
    (x.kind = .xpd →
      verdict (∃ p ∈ halves, (xpd p).count = 0)
        (∀ p ∈ halves, (l.minXpd : Int) ≤ (mean (xpd p).sum (xpd p).count).getD 0) ∧
      r.items = halves.flatMap fun p =>
        (if (xpd p).count = 0 then [] else
          [{ code := match p with
               | .h => .xpdH
               | .v => .xpdV,
             place := .pol p, value := (mean (xpd p).sum (xpd p).count).getD 0, scale := .db10,
             atLeast := (xpd p).atLeast, uncal := (xpd p).uncal }]) ++
        [{ code := .secondsCounted, place := .pol p, value := (xpd p).count, scale := .second }]) ∧
    (x.kind = .diversity →
      verdict (∃ p ∈ pairs, (div p).count = 0)
        (∀ p ∈ pairs, (mean (div p).magn (div p).count).getD 0 ≤ (l.maxDiff : Int)) ∧
      r.items = pairs.flatMap fun p => if (div p).count = 0 then [] else
        [{ code := match p with
             | .h => .divAbsH
             | .v => .divAbsV,
           place := .pol p, value := (mean (div p).magn (div p).count).getD 0, scale := .db10, uncal := (div p).uncal },
         { code := match p with
             | .h => .divDiffH
             | .v => .divDiffV,
           place := .pol p, value := (mean (div p).signed (div p).count).getD 0, scale := .db10,
           uncal := (div p).uncal }]) ∧
    (x.kind = .errtest →
      let t (p : Pol) : Totals := (s.count p).totals
      verdict False (∀ p ∈ halves, (t p).errored ≤ l.errored ∧ (t p).severe ≤ l.severe ∧ (t p).outage ≤ l.outage) ∧
      r.items = halves.flatMap fun p =>
        [{ code := .errored, place := .pol p, value := (t p).errored, scale := .count },
         { code := .severe, place := .pol p, value := (t p).severe, scale := .count },
         { code := .outage, place := .pol p, value := (t p).outage, scale := .count }]) ∧
    (x.kind = .soak →
      verdict (∃ b ∈ x.branches, (soak b).range = none)
        (∀ b ∈ x.branches, (soak b).below ≤ l.maxBelow ∧ (soak b).events ≤ l.maxEvents) ∧
      r.items = x.branches.flatMap fun b =>
        let item (code : ItemCode) (v : Int) (scale : Scale) : Item :=
          { code := code, place := .branch b, value := v, scale := scale, uncal := (soak b).uncal }
        (match (soak b).range with
          | some (lo, hi) => [item .minLevel lo .db10, item .maxLevel hi .db10]
          | none => []) ++ [item .secondsBelow (soak b).below .second, item .fadeEvents (soak b).events .count]) ∧
    (x.kind = .align → r =
      { verdict := .fail, reason := some .timeout, items := x.branches.flatMap s.alignItems }) ∧
    (x.kind = .wait → r =
      { verdict := .fail, reason := some .timeout, items := [plainItem .wakeCount c.acc.wakes .count] }) ∧
    (x.kind = .handover → r =
      { verdict := .fail, reason := some .noPeerEcho,
        items := [digestItem .digestLocal s.acr.localDigest, plainItem .elapsed c.elapsed .second] }) ∧
    ∀ b,
      let k := s.point b
      s.alignItems b =
        (k.peak.toList.map fun y =>
          { code := .heldPeak, place := .branch b, value := y.held, scale := .db10, falsePeak := s.falsePeak b,
            nominal := k.pred.isNominal, uncal := y.uncal }) ++
        ((s.seed b).toList.map fun v =>
          { code := .smoothed, place := .branch b, value := v.smoothed, scale := .db10, uncal := v.flags.uncal }) ++
        (s.figure (.deviation b)).toList.map fun f =>
          { code := .deviation, place := .branch b, value := f.value, scale := .db10, nominal := f.nominal,
            uncal := f.flags.uncal }

/-- R23, R24, R26 to R29, R32 and R37 to R39, with the order of the windows that R25 gives: the predicted level, the raw
class, the class with its dwell and stable count, the held peak and its marker, the two answers about a peak, what the
outputs follow, and when the tone sounds. That a held peak keeps the UNCAL of the sample that set it is log 26's (DEDUCED). -/
def Obligations.PointingRule : Prop :=
  (∀ (p : Pfl) (far : PerPol FarSource) (b : Branch),
    let source := match b with
      | .mh | .dh => far.h
      | .mv | .dv => far.v
    (p.link.path = none → predict p far b = .absent .unreferenced) ∧
    ∀ k, p.link.path = some k →
      let gain := match b with
        | .mh | .mv => k.mainGain
        | .dh | .dv => k.divGain
      let level (power : Int) : Int :=
        max (-1200) (min 0 (power - k.farTxLoss + k.farGain + gain - k.pathLoss - (p.branch b).rxLoss))
      (source = .off → predict p far b = .absent .cross) ∧
        (∀ power, source = .reported power → predict p far b = .level (level power) false) ∧
        (source = .nominal → predict p far b = .level (level k.farPower) true)) ∧
  (∀ (w : WindowValues) (x : Int) (below : Bool), 0 ≤ w.hi → 0 < w.main → w.main < w.edge → w.edge < w.side →
    rawClass w (.absent .unreferenced) x below = .unreferenced ∧ rawClass w (.absent .cross) x below = .cross ∧
      ∀ p nominal,
        let c := rawClass w (.level p nominal) x below
        let d := x - p
        (below = true → c = .noSignal) ∧
          (below = false → (c = .above ↔ w.hi < d) ∧ (c = .main ↔ -w.main ≤ d ∧ d ≤ w.hi) ∧
            (c = .skirt ↔ -w.edge ≤ d ∧ d < -w.main) ∧ (c = .side ↔ -w.side ≤ d ∧ d < -w.edge) ∧
            (c = .offPath ↔ d < -w.side))) ∧
  (∀ (r : PointRec) (raw : LobeClass) (dwell : Nat),
    let q := settleClass r raw false dwell
    let atOnce : Prop := raw = .unreferenced ∨ raw = .cross
    let counted (n : Nat) : Prop :=
      (dwell ≤ n → q = { r with cls := raw, cand := none, stable := n }) ∧
        (n < dwell → q = { r with cand := some (raw, n), stable := 0 })
    settleClass r raw true dwell = { r with cls := raw, cand := none, stable := 1 } ∧
      (raw = r.cls → q = { r with cand := none, stable := min 65535 (r.stable + 1) }) ∧
      (raw ≠ r.cls → atOnce → q = { r with cls := raw, cand := none, stable := 1 }) ∧
      (raw ≠ r.cls → ¬atOnce → (∀ k, r.cand = some (raw, k) → counted (min 255 (k + 1))) ∧
        ((∀ k, r.cand ≠ some (raw, k)) → counted 1))) ∧
  (∀ (hysteresis x : Int) (uncal : Bool),
    raisePeak hysteresis x uncal none = (some { held := x, marker := x, uncal := uncal }, false) ∧
      ∀ k, (x ≤ k.held → raisePeak hysteresis x uncal (some k) = (some k, false)) ∧
        (k.held < x → k.marker + hysteresis ≤ x →
          raisePeak hysteresis x uncal (some k) = (some { held := x, marker := x, uncal := uncal }, true)) ∧
        (k.held < x → x < k.marker + hysteresis →
          raisePeak hysteresis x uncal (some k) = (some { held := x, marker := k.marker, uncal := uncal }, false))) ∧
  (∀ (s : State) (b : Branch),
    let r := s.point b
    (∀ tolerance : Nat, s.atPeak b tolerance = true ↔
      r.cls = .main ∧ ∃ k x, r.peak = some k ∧ s.smoothed b = some x ∧ k.held - x ≤ tolerance) ∧
    (s.falsePeak b = true ↔ ∃ k p n, r.peak = some k ∧ r.pred = .level p n ∧
      -s.pfl.windows.side ≤ k.held - p ∧ k.held - p < -s.pfl.windows.edge)) ∧
  (∀ (c : LobeClass) (dev x : Option Int),
    let mv (d : Int) : Nat := (max 0 (min 4095 (2000 + 5 * d))).toNat
    (c = .none ∨ c = .noSignal → alignmentVoltage c dev x = 0) ∧
      (c = .unreferenced ∨ c = .cross → outputDeviation c dev x = x.map (· + 600)) ∧
      (c ≠ .none → c ≠ .unreferenced → c ≠ .cross → outputDeviation c dev x = dev) ∧ outputDeviation .none dev x = none ∧
      ∀ d, c ≠ .none → c ≠ .noSignal → outputDeviation c dev x = some d → alignmentVoltage c dev x = mv d) ∧
  (∀ c : LobeClass, c.cadence = (match c with
    | .main | .above | .unreferenced => .continuous
    | .skirt => .four
    | .side => .two
    | .offPath => .one
    | .noSignal | .none | .cross => .silent)) ∧
  ∀ p : Ptu,
    let after (period : Nat) : Nat := p.cadencePhase % period
    (p.burst = none →
      (p.cadence = .continuous → p.toneOn = true) ∧ (p.cadence = .silent → p.toneOn = false) ∧
        (p.cadence = .four → (p.toneOn = true ↔ after 250 < 125)) ∧
        (p.cadence = .two → (p.toneOn = true ↔ after 500 < 250)) ∧
        (p.cadence = .one → (p.toneOn = true ↔ after 1000 < 500))) ∧
      ∀ gone, gone < 50 → p.burst = some (50 - gone) →
        (p.toneOn = true ↔ (10 ≤ gone ∧ gone < 25) ∨ (35 ≤ gone ∧ gone < 50))

/-- A section at an offset lies wholly within bytes 5 to total length − 3 of an image (R190, condition 5). -/
abbrev sectionFits (image : List Byte) (o : Nat) : Prop :=
  5 ≤ o ∧ o + 5 ≤ image.length - 2 ∧ o + 5 + wordAt image (o + 1) ≤ image.length - 2

/-- The chain from an offset visits these sections in turn and ends at a last next-offset (R188). -/
def chains (image : List Byte) : Nat → List Nat → Nat → Prop
  | o, [], last => o = last
  | o, a :: rest, last => o = a ∧ a ≠ 0 ∧ sectionFits image a ∧ chains image (wordAt image (a + 3)) rest last

/-- A known kind's body has a length that R189 gives (R190, condition 7). -/
abbrev bodyLengthGiven (x : Section) : Prop :=
  (x.kind = 1 → x.body.length = 6 ∨ x.body.length = 18) ∧ (x.kind = 2 → x.body.length = 73) ∧
    (x.kind = 3 → x.body.length = 10) ∧ (x.kind = 4 → x.body.length = 6) ∧ (x.kind = 5 → x.body.length = 29)

/-- The order that condition 8 of R190 asks of a BRANCH table and of the windows. -/
abbrev bodyOrdered (x : Section) : Prop :=
  let b := x.body
  (x.kind = 2 → ∀ i, i < 15 → wordAt b (9 + 4 * i) < wordAt b (13 + 4 * i) ∧ intAt b (11 + 4 * i) ≤ intAt b (15 + 4 * i)) ∧
    (x.kind = 3 → wordAt b 2 < wordAt b 4 ∧ wordAt b 4 < wordAt b 6)

/-- Every field of a known kind lies in its range (R189; R190, condition 9; R8, R25, R121). -/
abbrev bodyInRange (x : Section) : Prop :=
  let b := x.body
  let long (i : Nat) : Nat := wordAt b i * 65536 + wordAt b (i + 2)
  let power (i : Nat) : Prop := -100 ≤ intAt b i ∧ intAt b i ≤ 350
  (x.kind = 1 → (byteAt b 2 = 0x41 ∨ byteAt b 2 = 0x42) ∧ (1 ≤ byteAt b 3 ∧ byteAt b 3 ≤ 15) ∧ power 4 ∧
    (b.length ≠ 6 → power 6 ∧ wordAt b 8 ≤ 700 ∧ wordAt b 10 ≤ 700 ∧ wordAt b 12 ≤ 700 ∧ wordAt b 14 ≤ 700 ∧
      wordAt b 16 ≤ 3000)) ∧
  (x.kind = 2 → byteAt b 0 ≤ 3 ∧ wordAt b 1 ≤ 300 ∧ (intAt b 3 = -32768 ∨ (-1200 ≤ intAt b 3 ∧ intAt b 3 ≤ 0)) ∧
    (-200 ≤ intAt b 5 ∧ intAt b 5 ≤ 200) ∧ byteAt b 7 ≤ 7 ∧ 1 ≤ byteAt b 8 ∧
    ∀ i, i < 16 → wordAt b (9 + 4 * i) ≤ 4095 ∧ -1200 ≤ intAt b (11 + 4 * i) ∧ intAt b (11 + 4 * i) ≤ 0) ∧
  (x.kind = 3 → wordAt b 0 ≤ 200 ∧ (1 ≤ wordAt b 2 ∧ wordAt b 2 ≤ 200) ∧ (2 ≤ wordAt b 4 ∧ wordAt b 4 ≤ 600) ∧
    (3 ≤ wordAt b 6 ∧ wordAt b 6 ≤ 1200) ∧ byteAt b 8 ≤ 20 ∧ (1 ≤ byteAt b 9 ∧ byteAt b 9 ≤ 30)) ∧
  (x.kind = 4 → (10 ≤ wordAt b 0 ∧ wordAt b 0 ≤ 3600) ∧ (60 ≤ long 2 ∧ long 2 ≤ 86400)) ∧
  (x.kind = 5 → (1 ≤ byteAt b 0 ∧ byteAt b 0 ≤ 100) ∧ wordAt b 1 ≤ 300 ∧ wordAt b 3 ≤ 300 ∧ wordAt b 5 ≤ 600 ∧
    wordAt b 7 ≤ 600 ∧ long 9 ≤ 259200 ∧ long 13 ≤ 259200 ∧ long 17 ≤ 259200 ∧ wordAt b 21 ≤ 600 ∧ long 23 ≤ 259200)

/-- R188 to R190: the conditions that make an image invalid, in the order of R190's table with the offset of the section
in which each is found; what the visited sections of a valid one give, a later one of its kind or branch in place of an
earlier, and the defaults where there is none. That conditions 7 to 9 are each tested over all visited sections before the
next, and which offset a rejection names, is the model's reading (DEDUCED, log 35). -/
def Obligations.ImageRule : Prop :=
  (∀ image : List Byte,
    let total := wordAt image 1
    let check : Prop := (crc (image.take (image.length - 2))).toNat = wordAt image (image.length - 2)
    let lengthOk : Prop := 7 ≤ total ∧ total ≤ 1024 ∧ total = image.length
    let rejects (r : RejectReason) (offset : Option Nat) : Prop :=
      judgeImage image = .error { reason := r, offset := offset }
    (byteAt image 0 ≠ 0x5B → rejects .format none) ∧
    (byteAt image 0 = 0x5B → ¬lengthOk → rejects .length none) ∧
    (byteAt image 0 = 0x5B → lengthOk → ¬check → rejects .check none) ∧
    (byteAt image 0 = 0x5B → lengthOk → check → ∀ os last, chains image (wordAt image 3) os last → os.length ≤ 16 →
      let xs : List Section := os.map fun o =>
        { offset := o, kind := byteAt image o, body := (image.drop (o + 5)).take (wordAt image (o + 1)) }
      (last ≠ 0 → ¬sectionFits image last → rejects .offset (some last)) ∧
      (last ≠ 0 → sectionFits image last → os.length = 16 → rejects .sectionCount (some last)) ∧
      (last = 0 →
        (∀ before y later, xs = before ++ y :: later → (∀ z ∈ before, bodyLengthGiven z) → ¬bodyLengthGiven y →
          rejects .sectionLength (some y.offset)) ∧
        ((∀ z ∈ xs, bodyLengthGiven z) →
          (∀ before y later, xs = before ++ y :: later → (∀ z ∈ before, bodyOrdered z) → ¬bodyOrdered y →
            rejects .order (some y.offset)) ∧
          ((∀ z ∈ xs, bodyOrdered z) →
            (∀ before y later, xs = before ++ y :: later → (∀ z ∈ before, bodyInRange z) → ¬bodyInRange y →
              rejects .range (some y.offset)) ∧
            ((∀ z ∈ xs, bodyInRange z) → judgeImage image = .ok xs))))) ∧
    imageCrc image = BitVec.ofNat 16 (wordAt image (image.length - 2))) ∧
  (∀ xs : List Section,
    let v := sectionsOf xs
    let newest (of : Section → Prop) (y : Section) : Prop :=
      ∃ before later, xs = before ++ y :: later ∧ of y ∧ ∀ z ∈ later, ¬of z
    let long (b : List Byte) (i : Nat) : Nat := wordAt b i * 65536 + wordAt b (i + 2)
    ((∀ z ∈ xs, z.kind ≠ 1) → v.link = none) ∧
    (∀ y, newest (fun z => z.kind = 1) y → v.link = some
      { linkId := wordAt y.body 0, letter := if byteAt y.body 2 = 0x42 then .b else .a,
        fitted := { mh := (byteAt y.body 3).testBit 0, mv := (byteAt y.body 3).testBit 1,
                    dh := (byteAt y.body 3).testBit 2, dv := (byteAt y.body 3).testBit 3 },
        commPower := intAt y.body 4,
        path := if y.body.length = 18 then some
          { farPower := intAt y.body 6, farTxLoss := wordAt y.body 8, farGain := wordAt y.body 10,
            mainGain := wordAt y.body 12, divGain := wordAt y.body 14, pathLoss := wordAt y.body 16 } else none }) ∧
    (∀ b, let names (z : Section) : Prop := z.kind = 2 ∧ byteAt z.body 0 = Branch.num b
      ((∀ z ∈ xs, ¬names z) → v.branch.get b = none) ∧
      ∀ y, newest names y → v.branch.get b = some
        { rxLoss := wordAt y.body 1, threshold := if intAt y.body 3 = -32768 then none else some (intAt y.body 3),
          slope := intAt y.body 5, shift := byteAt y.body 7, dwell := byteAt y.body 8,
          table := (List.range 16).map fun i => (wordAt y.body (9 + 4 * i), intAt y.body (11 + 4 * i)) }) ∧
    ((∀ z ∈ xs, z.kind ≠ 3) → v.windows = none) ∧
    (∀ y, newest (fun z => z.kind = 3) y → v.windows = some
      { hi := wordAt y.body 0, main := wordAt y.body 2, edge := wordAt y.body 4, side := wordAt y.body 6,
        hysteresis := byteAt y.body 8, tolerance := byteAt y.body 9 }) ∧
    ((∀ z ∈ xs, z.kind ≠ 4) → v.timing = none) ∧
    (∀ y, newest (fun z => z.kind = 4) y → v.timing = some { holdTime := wordAt y.body 0, suspLimit := long y.body 2 }) ∧
    ((∀ z ∈ xs, z.kind ≠ 5) → v.test = none) ∧
    ∀ y, newest (fun z => z.kind = 5) y → v.test = some
      { percent := byteAt y.body 0, windowBelow := wordAt y.body 1, windowAbove := wordAt y.body 3,
        minXpd := wordAt y.body 5, maxDiff := wordAt y.body 7, errored := long y.body 9, severe := long y.body 13,
        outage := long y.body 17, minFade := wordAt y.body 21, maxBelow := long y.body 23, maxEvents := wordAt y.body 27 }) ∧
  ∀ p : Pfl,
    (p.active.link = none → p.link =
      { linkId := 0, letter := if p.straps.endSel = 0 then .a else .b, fitted := ⟨true, true, true, true⟩, commPower := 100,
        path := none }) ∧
    (∀ v, p.active.link = some v → p.link = v) ∧
    (∀ b, (p.active.branch.get b = none → (p.branch b).rxLoss = 0 ∧ (p.branch b).threshold = none ∧
        (p.branch b).slope = 0 ∧ (p.branch b).shift = 3 ∧ (p.branch b).dwell = 20 ∧
        (p.branch b).table = (List.range 16).map fun (i : Nat) => (273 * i, -1200 + 80 * (i : Int))) ∧
      ∀ v, p.active.branch.get b = some v → p.branch b = v) ∧
    (p.active.windows = none → p.windows =
      { hi := 40, main := 30, edge := 150, side := 350, hysteresis := 2, tolerance := 5 }) ∧
    (∀ v, p.active.windows = some v → p.windows = v) ∧
    (p.active.timing = none → p.timing = { holdTime := 300, suspLimit := 1800 }) ∧
    (∀ v, p.active.timing = some v → p.timing = v) ∧
    (p.active.test = none → p.test =
      { percent := 30, windowBelow := 30, windowAbove := 30, minXpd := 250, maxDiff := 100, errored := 0, severe := 0,
        outage := 0, minFade := 100, maxBelow := 0, maxEvents := 0 }) ∧
    ∀ v, p.active.test = some v → p.test = v

/-! ## Start-up and resets -/

/-- R191 and R180: power-on gives every block its power-on values; a part reset that is due gives each block its part
reset, and one that is not due changes nothing (log 12). -/
def Obligations.ResetsComplete : Prop :=
  (∀ (straps : Straps) (attached : Bool) (s : State), Completes (exec (.powerOn straps attached) s) fun t =>
    t = ((State.powerOn straps attached).setPending s.pending).setDraws s.draws) ∧
  (∀ s : State, s.pif.resetDue = false → exec .partReset s = .next s) ∧
  ∀ s : State, s.pif.resetDue = true → Completes (exec .partReset s) fun t =>
    let x : Tma := { s.tma with peerSlot := none, planSlot := none, instSlot := none }
    let p := s.ple
    (∀ b, t.branch b = { s.branch b with seed := none }) ∧ t.blu.temp = s.blu.temp ∧ t.ptu = .powerOn ∧ t.chu = .powerOn ∧
      t.etu.test = .powerOn ∧ (∀ q, t.count q = .powerOn) ∧
      (∀ q, (t.etu.gens.get q).running = (s.etu.gens.get q).running ∧ (t.etu.gens.get q).reg = BitVec.allOnes 15) ∧
      t.tma = x.arbitrated s.pfl.link.commPower ∧ t.pcu = .powerOn (some 100) ∧
      t.ple = { table := p.table, length := p.length, stepMode := p.stepMode, position := p.position,
                state := if s.acr.state = .closed then .closed else if p.length = 0 then .idle else .loaded,
                halt := none, pauseReq := false, ctx := none, susp := none, limitTimer := none, pauseRec := none,
                todo := none } ∧
      t.acr.entries = s.acr.entries ∧ t.acr.next = s.acr.next ∧ t.acr.held = none ∧
      t.acr.state = (if s.acr.state = .closing then .opened else s.acr.state) ∧
      t.acr.localDigest = (if s.acr.state = .closing then none else s.acr.localDigest) ∧
      t.acr.peerDigest = s.acr.peerDigest ∧ t.acr.echo = s.acr.echo ∧ t.pif = .reset s.pif.present ∧
      t.pfl = s.pfl ∧ t.clock = s.clock ∧ t.pending = s.pending ∧ t.reports = []

/-- The peer state a taken frame gives under a profile (R103). -/
def judgedPeer (link : LinkValues) (f : PeerFrame) : PeerState :=
  if link.linkId = 0 ∨ f.linkId = 0 then .mismatch .unset
  else if link.linkId ≠ f.linkId then .mismatch .linkId
  else if link.letter = f.letter then .mismatch .sameEnd
  else .paired

/-- What the first application of a profile leaves (R18, R67, R96, R98, R103, R191): a branch that was not fitted is
unseeded, and a peer in HEARD is judged. -/
def startedUp (s u : State) (status : ProfileStatus) (check : Option Check) (r : Option Rejection) (v : Sections) : Prop :=
  u.pfl = { s.pfl with active := v, status := status, crc := check, rejection := r } ∧
    (∀ b, (u.branch b).fitted = u.pfl.link.fitted.get b ∧
      (u.branch b).active = (u.pfl.link.fitted.get b && (!(s.branch b).fitted || (s.branch b).active)) ∧
      (u.branch b).table = (u.pfl.branch b).table ∧ (u.branch b).slope = (u.pfl.branch b).slope ∧
      (u.branch b).shift = (u.pfl.branch b).shift ∧
      ((u.branch b).origin = if (v.branch.get b).isSome then .profile else .default) ∧
      (u.pfl.link.fitted.get b = true → u.seed b = if (s.branch b).fitted then s.seed b else none) ∧
      (u.pfl.link.fitted.get b = false → (s.branch b).active = true → u.seed b = none)) ∧
    u.pcu.last = s.pcu.last ∧ (s.pcu.peer = .solo ∨ s.pcu.last = none → u.pcu.peer = s.pcu.peer) ∧
    (∀ g, s.pcu.peer ≠ .solo → s.pcu.last = some g → u.pcu.peer = judgedPeer u.pfl.link g) ∧
    (s.tma.settle = .settling → u.tma.settle = .settling ∧ u.tma.timer = some 2000) ∧
    u.pcu.phase = !s.pcu.phase ∧ u.pcu.compTimer = some 100 ∧ u.pcu.own = some (u.frame u.pcu.phase) ∧
    (∀ p, u.etu.gens.get p = { s.etu.gens.get p with running := true }) ∧ u.etu.test = s.etu.test ∧
    u.etu.counts = s.etu.counts ∧ u.blu.temp = s.blu.temp ∧ u.chu.streams = s.chu.streams ∧ u.acr = s.acr ∧
    u.ple = s.ple ∧ u.clock = s.clock ∧ u.pending = s.pending ∧ s.QuietPorts u ∧
    u.Notified .profileStatus (profileTold u.pfl)

/-- R191: the five outcomes of the configuration memory's read, each taken only while the read is going on (DEDUCED,
log 11). That a header which passes, and is yet given as rejected, changes nothing is the model's reading (DEDUCED, log
32). -/
def Obligations.StartUpOutcomes : Prop :=
  (∀ s : State, s.pfl.status = .reading →
    Reacts (exec .memoryNoAnswer s) (fun u => startedUp s u .default none none .none) ∧
    Reacts (exec .memoryStall s) (fun u => startedUp s u .bad none (some { reason := .incomplete, offset := none }) .none) ∧
    (∀ header r, headerFault header = some r →
      Reacts (exec (.memoryHeaderReject header) s) fun u => startedUp s u .bad none (some r) .none) ∧
    (∀ image xs, judgeImage image = .ok xs →
      Reacts (exec (.profileReadComplete image) s) fun u =>
        startedUp s u .memory (some (imageCrc image)) none (sectionsOf xs)) ∧
    (∀ image r, judgeImage image = .error r →
      Reacts (exec (.profileReadComplete image) s) fun u => startedUp s u .bad none (some r) .none) ∧
    (∀ header, s.Settled → headerFault header = none → exec (.memoryHeaderReject header) s = .next s)) ∧
  ∀ s : State, s.pfl.status ≠ .reading → s.Settled →
    exec .memoryNoAnswer s = .next s ∧ exec .memoryStall s = .next s ∧
      (∀ header, exec (.memoryHeaderReject header) s = .next s) ∧ ∀ image, exec (.profileReadComplete image) s = .next s

/-! ## Receivers, channels and checkers -/

/-- R5 to R7, R13, R16, R23 to R30, R37 to R39: a sample of an ACTIVE branch is converted with every flag, pointed and
handed on, and touches no other branch; the pointing branch drives the voltage and the tone and posts its class change or
peak advance. The plan engine hears of a class change with the branch, the old class and the new class, and of the
sample. What the functions it names give is stated by LookupRule, CorrectionRule, SmoothingRule and PointingRule. A
tone without a deviation has a free frequency within its range (log 23). A branch that is OFF discards the sample. -/
def Obligations.DetectorSampleCompletes : Prop :=
  ∀ (b : Branch) (code : Nat) (lock : Bool) (s : State),
    ((s.branch b).active = false → s.Settled → exec (.detectorSample b code lock) s = .next s) ∧
    ((s.branch b).active = true → Reacts (exec (.detectorSample b code lock) s) fun u =>
      let o := s.branch b
      let l := if lock then lookup o.table code else lookupUnlocked o.table
      let level := max (-1200) (min 0 (l.level + correction o.slope s.blu.temp.held))
      let settling : Bool :=
        s.tma.settle == .settling || (s.pcu.peer == .paired && s.pcu.last.map PeerFrame.settle == some .settling)
      let x : Seed :=
        { acc := smooth o.shift level (o.seed.map Seed.acc), code := code, level := level, time := s.clock.ms,
          flags := { belowRange := l.below, aboveRange := l.above, uncal := o.origin == .default,
                     tempStale := s.blu.temp.status == .stale, tempUnset := s.blu.temp.status == .unset,
                     settling := settling } }
      let pred := predict s.pfl s.ptu.far b
      let dev := pred.value.map fun p => x.smoothed - p
      let cls := rawClass s.pfl.windows pred x.smoothed x.flags.belowRange
      let r := settleClass { s.point b with pred := pred, dev := dev } cls (s.seed b).isNone (s.pfl.branch b).dwell
      let peak := raisePeak s.pfl.windows.hysteresis x.smoothed x.flags.uncal (s.point b).peak
      let advances := peak.2
      u.blu = { s.blu with branches := s.blu.branches.set b { o with seed := some x } } ∧
        u.point b = { r with peak := peak.1 } ∧
        (∀ d, d ≠ b → u.point d = s.point d) ∧ u.ptu.far = s.ptu.far ∧ u.ptu.pointing = s.ptu.pointing ∧
        u.pcu = { s.pcu with out := s.pcu.out.set b (some (x.smoothed, x.flags)) } ∧
        (b = s.ptu.pointing →
          s.Drives u s.ptu.cadencePhase (if advances then some 50 else s.ptu.burst) ∧
          (advances = true → u.Notified .peakAdvance ([.u 1 (Branch.num b), .s 2 x.smoothed] ++ optS 2 dev)) ∧
          (advances = false → r.cls = (s.point b).cls → u.pif = s.pif) ∧
          (advances = false → r.cls ≠ (s.point b).cls → u.Notified .classChange
            ([.u 1 (Branch.num b), .u 1 (LobeClass.num (s.point b).cls), .u 1 (LobeClass.num r.cls)] ++ optS 2 dev))) ∧
        (b ≠ s.ptu.pointing → u.ptu.voltage = s.ptu.voltage ∧ u.ptu.freq = s.ptu.freq ∧
          u.ptu.cadence = s.ptu.cadence ∧ u.ptu.cadencePhase = s.ptu.cadencePhase ∧ u.ptu.burst = s.ptu.burst ∧
          u.pif = s.pif ∧ u.draws = s.draws) ∧
        u.reports = s.reports ++
          (if r.cls = (s.point b).cls then [.sample b] else [.classChange b (s.point b).cls r.cls, .sample b]) ∧
        u.chu = s.chu ∧ u.etu = s.etu ∧ u.tma = s.tma ∧ u.ple = s.ple ∧ u.acr = s.acr ∧ u.pfl = s.pfl ∧
        u.clock = s.clock ∧ u.pending = s.pending ∧ s.QuietPorts u)

/-- The page after the last one filled, round the ring, or the first page where none has been filled (R50, R61). -/
def pageAfter (r : ChanRec) : Nat :=
  match r.fill with
  | some i => if i + 1 < r.pageCount then i + 1 else 0
  | none => 0

/-- Page `i` of the ring lies `k` pages on from the page after the last one filled (R61). -/
def pageOn (r : ChanRec) (k i : Nat) : Prop :=
  k < r.pageCount ∧ i < r.pageCount ∧ (i = pageAfter r + k ∨ i + r.pageCount = pageAfter r + k)

/-- What a sampling at a moment makes of a RUNNING channel (R50 to R53): `q` is `r` with the value stored, missed or
dropped, or with an absent value missed; the timer then runs as given unless the run ends. -/
def sampledTo (r q : ChanRec) (now : Nat) (timer : Timer) (v : Option Sample) : Prop :=
  let missed : Prop :=
    q.stored = r.stored ∧ q.remaining = r.remaining ∧ q.missed = min 65535 (r.missed + 1) ∧
      q.gap = min 65535 (r.gap + 1) ∧ q.dropped = r.dropped ∧ q.state = .running ∧ q.timer = timer ∧ q.fill = r.fill
  let stores (i : Nat) (hdr : PageHeader) (es : List Sample) (x : Sample) : Prop :=
    q.stored = (r.stored + 1) % 2 ^ 32 ∧ q.remaining = r.remaining.map (· - 1) ∧ q.missed = r.missed ∧
      q.fill = some i ∧
      (r.remaining.map (· - 1) = some 0 → q.state = .done ∧ q.timer = none ∧
        q.pages = r.pages.set i
          (.ready { hdr with short := decide (es.length + 1 < r.pageSize), endRun := true } (es ++ [x]))) ∧
      (r.remaining.map (· - 1) ≠ some 0 → q.state = .running ∧ q.timer = timer ∧
        (es.length + 1 < r.pageSize → q.pages = r.pages.set i (.filling hdr (es ++ [x]))) ∧
        (r.pageSize ≤ es.length + 1 →
          q.pages = r.pages.set i (.ready { hdr with short := false, endRun := false } (es ++ [x]))))
  let begins : PageHeader := { seq := r.stored, time := now, gap := r.gap, short := false, endRun := false }
  q.owner = r.owner ∧ q.quantity = r.quantity ∧ q.interval = r.interval ∧ q.budget = r.budget ∧
    q.pageSize = r.pageSize ∧ q.pageCount = r.pageCount ∧ q.policy = r.policy ∧ q.hold = r.hold ∧ q.first = r.first ∧
    q.stream = r.stream ∧
    (v = none → r.filling = none → missed ∧ q.pages = r.pages) ∧
    (∀ i hdr es, v = none → r.filling = some (i, hdr, es) →
      missed ∧ q.pages = r.pages.set i (.ready { hdr with short := true, endRun := false } es)) ∧
    (∀ x i hdr es, v = some x → r.filling = some (i, hdr, es) →
      stores i hdr es x ∧ q.gap = r.gap ∧ q.dropped = r.dropped) ∧
    (∀ x, v = some x → r.filling = none →
      (r.pages[pageAfter r]? = some .free → stores (pageAfter r) begins [] x ∧ q.gap = 0 ∧ q.dropped = r.dropped) ∧
      (r.pages[pageAfter r]? ≠ some .free → r.policy = .lose → missed ∧ q.pages = r.pages) ∧
      (r.pages[pageAfter r]? ≠ some .free → r.policy = .overwrite →
        stores (pageAfter r) begins [] x ∧ q.gap = 0 ∧ q.dropped = min 65535 (r.dropped + 1)))

/-- R50 to R53 and R64: what a RUNNING channel's expiry stores, misses or drops, the notice of a run's end, and that it
touches no other channel; an expiry without a running timer, or in another state of the channel, changes nothing (DESIGN
CHOICE, log 8). -/
def Obligations.IntervalExpiryCompletes : Prop :=
  ∀ (c : Fin 8) (s : State),
    ((∀ r, s.channel c = some r → r.state ≠ .running ∨ r.timer = none) → exec (.intervalExpiry c) s = .next s) ∧
    ∀ r, s.channel c = some r → r.state = .running → r.timer.isSome = true →
      Completes (exec (.intervalExpiry c) s) fun t => ∃ q,
        t = (s.setChannel c (some q)).setPif t.pif ∧ s.QuietPorts t ∧
          sampledTo r q s.clock.ms (some r.interval) (s.sampleOf r.quantity) ∧
          (q.state = .done → t.Notified .channelState (channelTold c (some r.owner) (some .running) (some q) none)) ∧
          (q.state ≠ .done → t.pif = s.pif)

/-- R67 to R70: a generator's block is 2,048 bits of the sequence, the first sent in bit 0, and its last 15 bits give the
generator's register. A checker counts the bits in which a block differs from the block that its own register gives, and
goes on where that block ends; it loads its register from a block's last 15 bits. What a block does to its polarization's
checker and counts, and to nothing else. -/
def Obligations.TestBlockCompletes : Prop :=
  (∀ r : BitVec 15,
    let stage (n : Nat) : BitVec 15 := Nat.repeat (fun q => shiftIn q (q.getLsbD 14 ^^ q.getLsbD 13)) n r
    (∀ i, i < 2048 → (emitBlock r).1.getLsbD i = ((stage i).getLsbD 14 ^^ (stage i).getLsbD 13)) ∧
      (emitBlock r).2 = stage 2048 ∧ compareBlock (emitBlock r).1 r = (0, (emitBlock r).2) ∧
      (∀ bits : BitVec 2048, compareBlock bits r =
        (((List.range 2048).filter fun i => bits.getLsbD i != (emitBlock r).1.getLsbD i).length, (emitBlock r).2)) ∧
      (∀ bits : BitVec 2048, ∀ i, i < 15 → (loadRegister bits).getLsbD i = bits.getLsbD (2047 - i)) ∧
      loadRegister (emitBlock r).1 = (emitBlock r).2 ∧ (emitBlocks 0 r) = ([], r) ∧
      ∀ n, emitBlocks (n + 1) r =
        ((emitBlock r).1 :: (emitBlocks n (emitBlock r).2).1, (emitBlocks n (emitBlock r).2).2)) ∧
  ∀ (p : Pol) (bits : BitVec 2048) (s : State), Completes (exec (.testBlock p bits) s) fun t => ∃ q,
    let r := s.count p
    let errors := (compareBlock bits r.reg).1
    let next := (compareBlock bits r.reg).2
    let counting : Bool := s.etu.test.state == .running && s.etu.tested p
    let current := if counting then
      { r.current with blocks := r.current.blocks + 1, errored := r.current.errored + (if errors = 0 then 0 else 1),
                       bitErrors := r.current.bitErrors + errors }
      else r.current
    t = s.setCount p q ∧
      (r.sync = .hunt → errors ≠ 0 → q = { r with good := 0, reg := loadRegister bits }) ∧
      (r.sync = .hunt → errors = 0 → r.good = 0 → q = { r with good := 1, reg := next }) ∧
      (r.sync = .hunt → errors = 0 → r.good = 1 → q = { r with sync := .sync, good := 0, bad := 0, reg := next }) ∧
      (r.sync = .sync → errors ≤ 512 → q = { r with current := current, bad := 0, reg := next }) ∧
      (r.sync = .sync → 512 < errors → r.bad ≠ 3 → q = { r with current := current, bad := r.bad + 1, reg := next }) ∧
      (r.sync = .sync → 512 < errors → r.bad = 3 →
        q.sync = .hunt ∧ q.good = 0 ∧ q.bad = 0 ∧ q.reg = loadRegister bits ∧ q.outage = r.outage ∧ q.pend = r.pend ∧
          q.current = (if counting then { current with hunt := true } else current) ∧
          q.totals = (if counting then { r.totals with syncLosses := min 65535 (r.totals.syncLosses + 1) } else r.totals))

/-- R73, R80: a classification at the interval timer's expiry: each RUNNING ERR_INTERVAL channel of a tested polarization
takes its sample (R45, R50 to R53; its encoding is DEDUCED, log 31), the tested polarizations' counts enter their totals,
the next interval begins, and the test is complete at its duration, where the pending runs are resolved into the totals
(R76), TEST_DONE is posted and no interval is in progress (DESIGN CHOICE, log 59). An expiry without a running timer
changes nothing (DESIGN CHOICE, log 8). -/
def Obligations.TestIntervalExpiryCompletes : Prop :=
  ∀ s : State,
    (s.Settled → s.etu.test.timer = none ∨ s.etu.test.setup = none ∨ s.etu.test.state ≠ .running →
      exec .testIntervalExpiry s = .next s) ∧
    ∀ x, s.etu.test.timer.isSome = true → s.etu.test.setup = some x → s.etu.test.state = .running →
      Reacts (exec .testIntervalExpiry s) fun u =>
        let n := s.etu.test.completed + 1
        u.etu.test.completed = n ∧ u.etu.test.setup = some x ∧ u.etu.test.owner = s.etu.test.owner ∧
          u.etu.gens = s.etu.gens ∧
          (n < x.duration → u.etu.test.state = .running ∧ u.etu.test.timer = some 1000 ∧
            u.etu.test.cause = s.etu.test.cause) ∧
          (x.duration ≤ n → u.etu.test.state = .stopped ∧ u.etu.test.timer = none ∧ u.etu.test.cause = some .complete ∧
            u.Notified .testDone (testTold s.etu.test.owner x .complete n u.count)) ∧
          (∀ p, s.etu.tested p = false → u.count p = s.count p) ∧
          (∀ p, s.etu.tested p = true →
            let r := s.count p
            let booked := r.closeInterval (r.current.classOf x.severe)
            (u.count p).totals.bits = r.totals.bits + 2048 * r.current.blocks ∧
              (u.count p).totals.bitErrors = r.totals.bitErrors + r.current.bitErrors ∧
              (u.count p).outage = booked.outage ∧ (u.count p).sync = r.sync ∧ (u.count p).reg = r.reg ∧
              (n < x.duration → u.count p = { booked with current := .zero (r.sync == .hunt) }) ∧
              (x.duration ≤ n → u.count p = booked.ended)) ∧
          (∀ c, s.channel c = none → u.channel c = none) ∧
          (∀ c r, s.channel c = some r →
            (r.state ≠ .running ∨ (∀ p, s.etu.tested p = true → r.quantity ≠ .errInterval p) →
              u.channel c = some r) ∧
            ∀ p, s.etu.tested p = true → r.state = .running → r.quantity = .errInterval p →
              let i := (s.count p).current
              let v : Sample :=
                { value := (16384 * IntervalClass.num (i.classOf x.severe) + min 16383 i.errored : Nat), flags := {} }
              ∃ q, u.channel c = some q ∧ sampledTo r q s.clock.ms r.timer (some v) ∧
                (q.state = .done →
                  u.Told .channelState (channelTold c (some r.owner) (some .running) (some q) none))) ∧
          u.chu.streams = s.chu.streams ∧ u.blu = s.blu ∧ u.ptu = s.ptu ∧ u.tma = s.tma ∧ u.pcu = s.pcu ∧ u.ple = s.ple ∧
          u.acr = s.acr ∧ u.pfl = s.pfl ∧ u.clock = s.clock ∧ u.pending = s.pending ∧ s.QuietPorts u

/-! ## Transmitter, modem and timers -/

/-- R28, R86, R88 and R89: the matching report ends the settle, and every other report is disregarded; the settle timer's
expiry makes FAULT of the settle, with OFF driven for both polarizations, which returns the stable counts to 0, and in FAULT
no slot and no mask reaches the outputs. A timer that does not run has no expiry (DESIGN CHOICE, log 8). -/
def Obligations.SettleRules : Prop :=
  (∀ (n : Nat) (s : State),
    (s.tma.settle = .settling → n = s.tma.change → Reacts (exec (.settleReport n) s) fun u =>
      u = (((s.setTma { s.tma with settle := .settled, timer := none }).post .txState
        [.u 1 (TxState.num s.tma.driven.h), .u 1 (TxState.num s.tma.driven.v), yes s.tma.driven.freeze.isSome, .u 1 0,
         .u 1 (Winner.num s.tma.winner), .u 1 (maskByte s.tma.mute), .u 1 n]).report .transmitter)) ∧
    (s.Settled → s.tma.settle = .settling → n ≠ s.tma.change → exec (.settleReport n) s = .next s) ∧
    (s.Settled → s.tma.settle = .settled → exec (.settleReport n) s = .next s) ∧
    (s.Settled → s.tma.settle = .fault → exec (.settleReport n) s = .next s)) ∧
  (∀ s : State, s.Settled → s.tma.timer = none → exec .settleTimeout s = .next s) ∧
  (∀ s : State, s.tma.timer.isSome = true → Reacts (exec .settleTimeout s) fun u =>
    let dark : Prop := s.tma.driven.h = .off ∧ s.tma.driven.v = .off
    (dark → u.tma = { s.tma with settle := .fault, timer := none } ∧ u.ptu = s.ptu) ∧
      (¬dark →
        u.tma = { s.tma with settle := .fault, timer := none, change := (s.tma.change + 1) % 256,
                             driven := { h := .off, v := .off, freeze := some s.pfl.link.commPower } } ∧
        ∀ b, u.point b = { s.point b with stable := 0 }) ∧
      u.Notified .txState
        [.u 1 0, .u 1 0, yes u.tma.driven.freeze.isSome, .u 1 2, .u 1 (Winner.num s.tma.winner),
         .u 1 (maskByte s.tma.mute), .u 1 u.tma.change] ∧
      u.reports = s.reports ++ [.txFault] ∧ s.QuietPorts u ∧ u.blu = s.blu ∧ u.chu = s.chu ∧ u.etu = s.etu ∧
      u.pcu = s.pcu ∧ u.ple = s.ple ∧ u.acr = s.acr ∧ u.pfl = s.pfl ∧ u.clock = s.clock ∧ u.pending = s.pending) ∧
  ∀ s : State, s.tma.settle = .fault → ∀ m k,
    (s.setPeerSlot m).tma = { s.tma with peerSlot := m } ∧ (s.setPlanSlot m).tma = { s.tma with planSlot := m } ∧
      (s.setInstSlot m).tma = { s.tma with instSlot := m } ∧ (s.setMask k).tma = { s.tma with mute := k }

/-- R11, R39, R98, R99, R102, R104, R112, R114 and R116: the end of a double burst, the freshness timer's expiry, and a
composition with every field of its frame. Silence makes the peer SOLO, with its notice, both far sources NOMINAL (R22)
and a held turn silent; the hold timer's expiry ends what is held, and a request that waited on the grant is raised again
(R109). The stable counts return to 0 where a far source or a driven state changes (R28). That a turn still silent starts
its hold time again (log 78), and that a timer that does not run has no expiry (log 8), are DESIGN CHOICE. -/
def Obligations.TimersComplete : Prop :=
  (∀ s : State,
    Completes (exec .doubleBurstEnd s) (fun t => t = s.setPtu { s.ptu with burst := none }) ∧
    (s.blu.temp.timer = none → exec .freshnessExpiry s = .next s) ∧
    (s.blu.temp.timer.isSome = true → Completes (exec .freshnessExpiry s) fun t =>
      t = s.setBlu { s.blu with temp := { held := s.blu.temp.held, status := .stale, timer := none } }) ∧
    (s.pcu.compTimer = none → exec .composition s = .next s) ∧
    (s.pcu.compTimer.isSome = true → Completes (exec .composition s) fun t =>
      let comm := s.pfl.link.commPower
      let own : PeerFrame :=
        { phase := !s.pcu.phase, linkId := s.pfl.link.linkId, letter := s.pfl.link.letter, h := s.tma.driven.h,
          v := s.tma.driven.v, settle := s.tma.settle, mute := s.tma.mute,
          power := if s.tma.driven.freeze.isSome then comm else s.tma.power.getD comm,
          levels := s.pcu.out,
          req := match s.pcu.req with
            | .requesting _ m => some m
            | .holding _ m false _ _ => some m
            | _ => none,
          grant := s.pcu.grant.isSome,
          ind := match s.acr.state with
            | .opened => .none
            | .closing => .ready
            | .closed => .closed,
          digest := if s.acr.state = .opened then 0 else s.acr.localDigest.getD 0,
          echo := s.acr.echo }
      t = s.setPcu { s.pcu with phase := !s.pcu.phase, own := some own, compTimer := some 100 })) ∧
  ∀ s : State,
    let p := s.pcu
    let holds (released : Bool) : Prop := ∃ w m x a, p.req = .holding w m released x a
    let apart (u : State) : Prop :=
      u.draws = s.draws ∧ u.blu = s.blu ∧ u.chu = s.chu ∧ u.etu = s.etu ∧ u.ple = s.ple ∧ u.acr = s.acr ∧ u.pfl = s.pfl ∧
        u.clock = s.clock ∧ u.pending = s.pending ∧ s.QuietPorts u
    (s.Settled → p.silence = none → exec .silenceExpiry s = .next s) ∧
    (p.silence.isSome = true → Reacts (exec .silenceExpiry s) fun u =>
      let solo : Pcu := { p with silence := none, peer := .solo }
      (p.peer ≠ .paired → u.pcu = solo) ∧
        (p.peer = .paired → p.grant.isSome = true ∨ holds false →
          u.pcu = { solo with silent := true, hold := some (1000 * s.pfl.timing.holdTime) }) ∧
        (p.peer = .paired → p.grant = none → holds true →
          u.pcu = { solo with req := .none, silent := false, hold := none }) ∧
        (p.peer = .paired → p.grant = none → ¬holds false → ¬holds true → u.pcu = solo) ∧
        (p.peer = .solo → u.ptu = s.ptu) ∧
        (∀ g, p.peer ≠ .solo → p.last = some g → u.Told .peerState (peerTold p.peer .solo g)) ∧
        (p.peer ≠ .solo → u.ptu = { s.ptu with far := ⟨.nominal, .nominal⟩, recs := u.ptu.recs } ∧
          ∀ b, u.point b = if s.ptu.far = ⟨.nominal, .nominal⟩ then s.point b else { s.point b with stable := 0 }) ∧
        u.tma = s.tma ∧ apart u) ∧
    (s.Settled → p.hold = none → exec .holdExpiry s = .next s) ∧
    (p.hold.isSome = true → Reacts (exec .holdExpiry s) fun u =>
      (p.grant = none → holds false ∨ holds true →
        u.pcu = { p with req := .none, silent := false, hold := none } ∧ u.tma = s.tma) ∧
      (p.grant = none → ¬holds false → ¬holds true → u.pcu = { p with hold := none } ∧ u.tma = s.tma) ∧
      (p.grant.isSome = true → ¬holds false → ¬holds true →
        u.tma = Tma.arbitrated { s.tma with peerSlot := none } s.pfl.link.commPower ∧
          (∀ w m, p.req = .deferred w m →
            u.pcu = { p with grant := none, req := .requesting w m, silent := false, hold := none }) ∧
          ((∀ w m, p.req ≠ .deferred w m) → u.pcu = { p with grant := none, silent := false, hold := none })) ∧
      s.PointsOn u ∧ apart u)

/-- What the pointing unit holds of a far polarization while PAIRED (R22's rows). -/
def farShown (f : PeerFrame) (p : Pol) (old : FarSource) : FarSource :=
  if f.settle = .fault then .off
  else if f.settle = .settling then old
  else if f.state p = .off then .off
  else .reported f.power

/-- A frame is taken and judged while PAIRED, by the pairing check or, before the first profile, as the peer stood. -/
def takenPaired (s : State) (f : PeerFrame) : Prop :=
  (s.pfl.status ≠ .reading ∧ judgedPeer s.pfl.link f = .paired) ∨ (s.pfl.status = .reading ∧ s.pcu.peer = .paired)

/-- R100, R101, R103, R104, R112, R115 and R116: an invalid frame and a repeat change nothing; a frame of another phase is
taken, starts the silence timer and is judged against the profile in force. One that is not taken while PAIRED acts on
no turn field; where it takes the peer out of PAIRED, a held turn becomes silent, and one still silent starts its hold
time again (DESIGN CHOICE, log 78). A change of peer state posts PEER_STATE, and a change of reason within MISMATCH is not
reported to the plan engine. -/
def Obligations.PeerFrameCompletes : Prop :=
  ∀ (s : State) (bytes : List Byte),
    (s.Settled → PeerFrame.parse bytes = none → exec (.peerFrame bytes) s = .next s) ∧
    (∀ f g, PeerFrame.parse bytes = some f →
      bytes.length = 48 ∧ byteAt bytes 0 = 0xC6 ∧ wordAt bytes 46 = (crc (bytes.take 46)).toNat ∧
        (s.Settled → s.pcu.last = some g → g.phase = f.phase → exec (.peerFrame bytes) s = .next s)) ∧
    ∀ f, PeerFrame.parse bytes = some f → (∀ g, s.pcu.last = some g → g.phase ≠ f.phase) →
      Reacts (exec (.peerFrame bytes) s) fun u =>
        let p := { s.pcu with last := some f, takenAt := some s.clock.ms, silence := some 1000, peer := u.pcu.peer }
        u.pcu.last = some f ∧ u.pcu.takenAt = some s.clock.ms ∧ u.pcu.silence = some 1000 ∧
          u.pcu.phase = s.pcu.phase ∧ u.pcu.compTimer = s.pcu.compTimer ∧ u.pcu.out = s.pcu.out ∧ u.pcu.own = s.pcu.own ∧
          (s.pfl.status = .reading → u.pcu.peer = if s.pcu.peer = .solo then .heard else s.pcu.peer) ∧
          (s.pfl.status ≠ .reading → u.pcu.peer = judgedPeer s.pfl.link f) ∧
          (¬takenPaired s f → u.tma = s.tma ∧ u.acr = s.acr ∧ u.etu = s.etu ∧ u.chu = s.chu ∧ u.ple = s.ple ∧
            u.pcu = (if s.pcu.peer = .paired then p.silenced s.pfl.timing.holdTime else p) ∧
            u.ptu = { s.ptu with far := ⟨.nominal, .nominal⟩, recs := u.ptu.recs } ∧
            (∀ a b, s.pcu.peer = .mismatch a → u.pcu.peer = .mismatch b → u.reports = s.reports) ∧
            (s.pcu.peer = .solo → u.Told .peerState (peerTold .solo .heard f) ∧
              (u.pcu.peer ≠ .heard → u.Told .peerState (peerTold .heard u.pcu.peer f))) ∧
            (s.pcu.peer ≠ .solo → u.pcu.peer ≠ s.pcu.peer →
              u.Told .peerState (peerTold s.pcu.peer u.pcu.peer f))) ∧
          (s.pcu.peer = .solo → .peerState .solo .heard ∈ u.reports) ∧
          (s.pcu.peer ≠ .solo → u.pcu.peer ≠ s.pcu.peer →
            (∀ a b, s.pcu.peer = .mismatch a → u.pcu.peer ≠ .mismatch b) → .peerState s.pcu.peer u.pcu.peer ∈ u.reports) ∧
          u.blu = s.blu ∧ u.pfl = s.pfl ∧ u.clock = s.clock ∧ u.pending = s.pending ∧ s.QuietPorts u

/-- The far mode match a frame shows against a requested mode (R115's table). -/
def matchShown (f : PeerFrame) (m : RequestMode) : FarMatch :=
  if f.settle = .settling then .settling
  else if f.settle = .settled ∧ (f.h, f.v) = m.pair then .matched
  else .different

/-- The request side after a frame's GRANT field (R106, R115). -/
def askedAfter (p : Pcu) (f : PeerFrame) : RequestSide :=
  match p.req, f.grant with
  | .requesting w m, true => .holding w m false (matchShown f m) m
  | .holding w m released _ _, true => .holding w m released (matchShown f m) m
  | .holding _ _ _ _ _, false => .none
  | side, _ => side

/-- The granted mode after a frame's REQUEST field, given the request side after its GRANT field (R107, R108): while
nothing is granted, an end that asks for nothing grants, and of two that ask end B defers, neither once its record is
CLOSING or CLOSED. -/
def grantedAfter (s : State) (asked : RequestSide) (f : PeerFrame) : Option RequestMode :=
  let gives : Bool := match asked with
    | .none => true
    | .requesting _ _ => s.pfl.link.letter == .b
    | .holding _ _ _ _ _ | .deferred _ _ => false
  if s.pcu.grant.isSome = true ∨ (gives = true ∧ s.acr.state = .opened) then f.req else none

/-- The request side after both fields (R108, R109): a request that crosses a grant given defers, and a deferred one is
raised again as the grant ends. -/
def sideAfter (asked : RequestSide) (before granted : Option RequestMode) : RequestSide :=
  match asked, before, granted with
  | .requesting w m, none, some _ => .deferred w m
  | .deferred w m, some _, none => .requesting w m
  | side, _, _ => side

/-- R22, R91, R105 to R109, R113 and R115: what a frame taken while PAIRED does to both sides of the turn, to the silent
flag, to the PEER slot and to the far sources; what of it reaches the plan engine; and that nothing else changes while no
handover can complete on it. That a match is reported anew after the requested mode has changed is the model's (DEDUCED,
log 20), and so are the order of the notices (DEDUCED, log 19) and that a released turn forms its match too (DESIGN CHOICE,
log 76). -/
def Obligations.TurnFieldsRule : Prop :=
  ∀ (s : State) (bytes : List Byte) (f : PeerFrame), PeerFrame.parse bytes = some f →
    (∀ g, s.pcu.last = some g → g.phase ≠ f.phase) → takenPaired s f → s.TurnLaw → s.acr.state ≠ .closing →
    Reacts (exec (.peerFrame bytes) s) fun u =>
      let p := s.pcu
      let asked := askedAfter p f
      let granted := grantedAfter s asked f
      let same : Prop := u.ptu.far = s.ptu.far ∧ u.tma.driven.h = s.tma.driven.h ∧ u.tma.driven.v = s.tma.driven.v
      u.pcu.peer = .paired ∧ u.pcu.req = sideAfter asked p.grant granted ∧ u.pcu.grant = granted ∧
        u.pcu.silent = false ∧ (p.silent = true ∨ p.hold = none → u.pcu.hold = none) ∧
        (granted = p.grant → u.tma = s.tma) ∧
        (granted ≠ p.grant → u.tma = Tma.arbitrated { s.tma with peerSlot := granted } s.pfl.link.commPower) ∧
        (∀ w m released x a, p.req = .holding w m released x a → f.grant = false →
          .turnState (some (w, if released then .released else .grantWithdrawn)) ∈ u.reports) ∧
        (∀ w m, p.req = .requesting w m → f.grant = true → .farMatch (matchShown f m) ∈ u.reports) ∧
        (∀ w m released x a, p.req = .holding w m released x a → f.grant = true →
          (matchShown f m ≠ x ∨ m ≠ a → .farMatch (matchShown f m) ∈ u.reports) ∧
          (matchShown f m = x → m = a → s.reports = [] → ∀ y, .farMatch y ∉ u.reports)) ∧
        (p.grant.isSome = true → f.req = none → asked = .none →
          u.Notified .turnState
            ([.u 1 (TurnState.num .none), yes false] ++ optU 1 none ++ optU 1 none ++ optU 1 none ++
              optU 1 (some (TurnReason.num .requestWithdrawn)))) ∧
        (f.settle = .settling → p.peer = .paired → u.ptu.far = s.ptu.far) ∧
        (f.settle ≠ .settling → u.ptu.far = ⟨farShown f .h .nominal, farShown f .v .nominal⟩) ∧
        (p.peer ≠ .paired → u.Told .peerState (peerTold (if p.peer = .solo then .heard else p.peer) .paired f)) ∧
        (p.peer = .solo → u.Told .peerState (peerTold .solo .heard f)) ∧
        (p.peer = .paired → ∀ b, (same → u.point b = s.point b) ∧ (¬same → u.point b = { s.point b with stable := 0 })) ∧
        u.ptu = { s.ptu with far := u.ptu.far, recs := u.ptu.recs } ∧ u.etu = s.etu ∧ u.chu = s.chu ∧ u.ple = s.ple ∧
        (s.acr.state = .opened → f.ind ≠ .none → u.acr = { s.acr with echo := some f.digest }) ∧
        (s.acr.state = .closed ∨ f.ind = .none → u.acr = s.acr)

/-! ## The handover -/

/-- R162: the governing verdict of a step index. R167: a HANDOVER step is refused at PREPARE by its open items or for want
of room, and forms its digest at MEASURE. R168 and R171: the echo of a frame taken while PAIRED, the frame that completes
the handover, and what closing tears down. That completing needs a storable entry is the model's (DEDUCED, log 45), and so is
how STEP_DONE tells what became of an entry and its items (DESIGN CHOICE, logs 68 and 90). -/
def Obligations.HandoverRules : Prop :=
  (∀ (a : Acr) (i : Nat),
    let stands (e : Entry) : Prop :=
      (e.kind = .stepResult ∨ e.kind = .handover) ∧ e.superseded = false ∧ e.step.map StepTag.index = some i
    ((∀ e ∈ a.entries, ¬stands e) → a.governing i = none) ∧
    ∀ earlier e later, a.entries = earlier ++ e :: later → stands e → (∀ x ∈ later, ¬stands x) →
      let waived : Prop := ∃ w ∈ later, w.kind = .waiver ∧ w.ref = some e.seq
      (e.kind = .handover → a.governing i = some .pass) ∧
        (e.kind = .stepResult → waived → a.governing i = some .waived) ∧
        (e.kind = .stepResult → ¬waived → a.governing i = e.verdict)) ∧
  (∀ (s : State) (x : Step) (c : StepCtx), s.Doing x c → s.ple.state = .running → x.kind = .handover →
    let openItems := (List.range (s.ple.length - 1)).filter fun i =>
      s.acr.governing i != some .pass && s.acr.governing i != some .waived
    let noRoom : Prop := 94 < s.acr.entries.length ∨ 65534 < s.acr.next
    let prepared := s.hush fun s => s.perform .prepare
    let d : StepCtx := { c with phase := .prepare, reached := false, phaseTimer := none, measureTimer := none }
    let measured := s.hush fun s => s.perform .measure
    (s.standing x = [] →
      (∀ i rest, openItems = i :: rest → s.Concludes prepared x d
        { verdict := .fail, reason := some .openItems,
          items := [plainItem .openSteps (rest.length + 1 : Nat) .count, plainItem .firstOpen i .count] } .byVerdict) ∧
      (openItems = [] → noRoom → s.Concludes prepared x d
        { verdict := .fail, reason := some .noRoom, items := [plainItem .elapsed c.elapsed .second] } .byVerdict) ∧
      (openItems = [] → ¬noRoom → x.channel = none → x.localMode = none → x.farModeIn c.half = none →
        prepared = s.setPle { s.ple with ctx := some d, todo := some .settle })) ∧
    (x.over c.elapsed = false → s.heldChannel x c = none →
      measured.acr = { s.acr with localDigest := some (digestOf s.acr.entries), state := .closing } ∧
        (∀ b, (measured.frame b).ind = .ready ∧ (measured.frame b).digest = digestOf s.acr.entries) ∧
        measured.ple.ctx.map StepCtx.phase = some .measure ∧ measured.ple.state = .running)) ∧
  digestOf [] = 0xFFFF ∧
  ∀ (s : State) (bytes : List Byte) (f : PeerFrame), PeerFrame.parse bytes = some f →
    (∀ g, s.pcu.last = some g → g.phase ≠ f.phase) → takenPaired s f →
    let echoed : Acr := if f.ind ≠ .none ∧ s.acr.state ≠ .closed then { s.acr with echo := some f.digest } else s.acr
    let answered : Prop :=
      s.acr.state = .closing ∧ s.ple.state = .running ∧ f.ind ≠ .none ∧ f.echo.isSome = true ∧
        f.echo = s.acr.localDigest ∧ s.acr.storable = true
    ((¬answered ∨ ∀ x c, s.Doing x c → x.kind ≠ .handover ∨ c.phase ≠ .measure) →
      Reacts (exec (.peerFrame bytes) s) fun u => u.acr = echoed ∧ u.ple = s.ple ∧ u.chu = s.chu ∧ u.etu = s.etu) ∧
    ∀ x c, answered → s.Doing x c → x.kind = .handover → c.phase = .measure → s.TurnLaw →
      Reacts (exec (.peerFrame bytes) s) fun u =>
        let e := s.entryOf x c .handover
          { verdict := .pass, reason := none,
            items := [digestItem .digestLocal s.acr.localDigest, digestItem .digestPeer (some f.digest)] }
        u.acr = { (s.acr.withEntry e) with state := .closed, peerDigest := some f.digest, echo := some f.digest } ∧
          u.acr.entries.getLast? = some { e with seq := s.acr.next } ∧
          u.ple = { s.ple with state := .closed, ctx := none, halt := none, pauseReq := false, susp := none,
                               limitTimer := none, pauseRec := none, todo := none } ∧
          u.tma.planSlot = none ∧ u.tma.instSlot = none ∧ u.tma.peerSlot = none ∧ u.pcu.grant = none ∧
          (∀ w m, u.pcu.req ≠ .requesting w m ∧ u.pcu.req ≠ .deferred w m) ∧
          (∀ w m y a, u.pcu.req ≠ .holding w m false y a) ∧
          (∀ d r, s.channel d = some r → u.channel d = if r.owner = .unit then some r else none) ∧
          (s.etu.test.active = true → u.etu.test =
            { s.etu.test with state := .stopped, timer := none, cause := some .closed, owner := none }) ∧
          (s.etu.test.active = false → u.etu = s.etu) ∧ u.blu = s.blu ∧ u.pfl = s.pfl ∧ u.clock = s.clock ∧
          u.pending = s.pending ∧ s.QuietPorts u

/-- Whether a report raises a cause for a step in a half and a phase, `reached` saying that the step has reached its far
mode (R144 to R146, cause by cause). -/
def raises (s : State) (x : Step) (half : Option Pol) (phase : StepPhase) (reached : Bool) (r : Report) (k : Cause) : Prop :=
  let later : Prop := phase = .settle ∨ phase = .measure
  let needsPeer : Prop := (x.farModeIn half).isSome = true
  match k with
  | .unitMute => r = .maskChange ∧ x.mutedBy s.tma.mute = true
  | .txFault => r = .txFault
  | .remoteMode =>
    (r = .farMatch .different ∧ reached = true ∧ later) ∨
      (r = .turnState (some (.plan, .grantWithdrawn)) ∧ later ∧ needsPeer)
  | .peerLoss =>
    r = .turnState (some (.plan, .holdExpired)) ∨
      (r.leavesPaired = true ∧ (phase = .settle ∨ (phase = .measure ∧ x.kind ≠ .align)) ∧ needsPeer)
  | .sourceLoss => r.offBranch.any (· ∈ x.lossBranches) = true
  | .installerAbort => r = .abort ∨ (r = .presenceLoss ∧ x.kind = .align)

/-- What every report does to the context of a step: the end of its turn leaves it without one (R105). -/
def noted (c : StepCtx) (r : Report) : StepCtx :=
  if r.endsPlanTurn then { c with held := { c.held with turn := false } } else c

/-- R120, R121, R127, R128, R131, R144: the modes and branches of a step that its kind gives, the mute mask's reach, and the
limits of an attempt. -/
def stepFields (x : Step) : Prop :=
  (∀ p, x.kind = .xpd → x.farModeIn (some p) = some (match p with
    | .h => .cwH
    | .v => .cwV)) ∧
  (∀ half, (x.kind = .errtest → x.farModeIn half = some .pattern) ∧
    (x.kind = .align ∨ x.kind = .level ∨ x.kind = .diversity → x.farModeIn half = x.farMode) ∧
    (x.kind = .soak ∨ x.kind = .wait ∨ x.kind = .handover → x.farModeIn half = none)) ∧
  (x.kind = .soak → x.localMode = some .traffic) ∧
  (x.kind = .errtest → x.localMode = if x.locMode.isSome then some .pattern else none) ∧
  (x.kind = .align ∨ x.kind = .level ∨ x.kind = .xpd ∨ x.kind = .diversity → x.localMode = x.locMode) ∧
  (x.kind = .wait ∨ x.kind = .handover → x.localMode = none) ∧
  x.lossBranches = (if x.kind = .xpd then [.mh, .mv] else x.branches) ∧
  x.settleBranches = (if x.kind = .xpd then [.mh, .mv]
    else if x.kind = .errtest ∨ x.kind = .wait ∨ x.kind = .handover then [] else x.branches) ∧
  x.firstHalf = (if x.kind = .xpd then (if x.pols = some .v then some .v else some .h) else none) ∧
  (∀ mask, x.mutedBy mask = true ↔
    ∃ m, x.localMode = some m ∧ ((mask.h = true ∧ m.pair.1 ≠ .off) ∨ (mask.v = true ∧ m.pair.2 ≠ .off))) ∧
  ∀ p : Pfl, x.limits.resolve p =
    { tolerance := x.limits.tolerance.getD p.windows.tolerance, windowBelow := x.limits.windowBelow.getD p.test.windowBelow,
      windowAbove := x.limits.windowAbove.getD p.test.windowAbove, minXpd := x.limits.minXpd.getD p.test.minXpd,
      maxDiff := x.limits.maxDiff.getD p.test.maxDiff, errored := x.limits.errored.getD p.test.errored,
      severe := x.limits.severe.getD p.test.severe, outage := x.limits.outage.getD p.test.outage,
      minFade := x.limits.minFade.getD p.test.minFade, maxBelow := x.limits.maxBelow.getD p.test.maxBelow,
      maxEvents := x.limits.maxEvents.getD p.test.maxEvents }

/-- R144 to R148 and R156: what each report does to the plan where it raises a cause: it suspends the step in progress, or
joins the cause set of a suspended step by its saved phase, or the seen set of a paused plan by the step that starts next;
each set holds a cause once, and a plan in another state is not reached. A suspended step keeps its elapsed and the end of
its test. A command's reports are heeded one after another, each with the entries it leads to (log 21), and what the plan
engine does itself is not reported back to it (log 22). That a suspended step's elapsed follows its test is DEDUCED (log
33). That a mask change after which a radiated polarization is muted raises UNIT_MUTE, also where it only lifts another
mute or only mutes what the local mode leaves OFF (log 81), the order of the members of both sets (log 82), and that the
PLAN_STATE of a suspension is its newest notice, as `Suspends` has it (log 79), are DESIGN CHOICE. -/
def Obligations.CauseRules : Prop :=
  (∀ (s : State) (r : Report),
    let u := s.hush fun s => s.heed r
    (∀ x c, s.Doing x c → s.ple.state = .running → ∀ k, raises s x c.half c.phase c.reached r k →
      s.Suspends u x (noted c r) k [] r.offBranch) ∧
    (∀ x c q, s.Doing x c → s.ple.state = .suspended → s.ple.susp = some q →
      let d : StepCtx := match r with
        | .testProgress n => if x.kind = .errtest then { c with elapsed := n } else c
        | .testEnd .complete => { c with testEnded := true }
        | _ => noted c r
      let joined (k : Cause) : Prop := raises s x c.half c.phase c.reached r k
      (∀ k, joined k → k ∉ q.causes →
        u = (s.setPle { s.ple with ctx := some d, susp := some { q with causes := q.causes ++ [k] } }).setPif u.pif ∧
          s.QuietPorts u ∧ u.Notified .suspended { q with causes := q.causes ++ [k] }.fields) ∧
      (∀ k, joined k → k ∈ q.causes → u = s.setPle { s.ple with ctx := some d }) ∧
      ((∀ k, ¬joined k) → u = s.setPle { s.ple with ctx := some d })) ∧
    (∀ p x, s.ple.state = .paused → s.ple.pauseRec = some p → s.stepAt p.next.index = some x →
      let seen (k : Cause) : Prop := raises s x x.firstHalf .prepare false r k
      (∀ k, seen k → k ∉ p.seen → u = s.setPle { s.ple with pauseRec := some { p with seen := p.seen ++ [k] } }) ∧
      (∀ k, seen k → k ∈ p.seen → u = s) ∧ ((∀ k, ¬seen k) → u = s)) ∧
    (s.ple.state.underWay = false → u = s)) ∧
  (∀ s : State, (s.ple.todo = none → s.reports = [] → react s = s) ∧
    ∀ r rest, s.ple.todo = none → s.reports = r :: rest →
      react s = (reactTo rest (State.drive driveBound ((s.setReports []).hush fun s => s.heed r))).setReports []) ∧
  ∀ (s : State) (n : Nat), (s.ple.todo = none → State.drive n s = s) ∧
    ∀ w, s.ple.todo = some w → State.drive (n + 1) s = State.drive n (s.hush fun s => s.perform w)

/-- What PREPARE takes for a step in which nothing stands (R128 to R130): the channel of the plan's shape at the given place
of the store, the local mode, the turn, and the prepare limit; the conditions are then tested. -/
def gathers (s u : State) (x : Step) (c : StepCtx) (first : Nat) : Prop :=
  let far := x.farModeIn c.half
  let asked : Option RequestMode := if c.held.turn = true ∧ s.pcu.req.mode = far then none else far
  let budget (f : StepChannel) : Option Nat :=
    let seconds := if x.kind = .xpd ∧ x.pols = some .both then 2 * x.duration.getD 0 else x.duration.getD 0
    if x.kind = .align then none else some (max 1 (min 16777214 (seconds * 1000 / f.interval)))
  let bound (f : StepChannel) : ChanRec :=
    { owner := .plan, state := .bound, quantity := f.quantity, interval := f.interval, budget := budget f,
      remaining := budget f, stored := 0, missed := 0, dropped := 0, gap := 0, pageSize := 32, pageCount := 4,
      policy := .overwrite, hold := true, first := first, pages := List.replicate 4 .free, fill := none, timer := none,
      stream := none }
  let takes (f : StepChannel) (d : Fin 8) : Prop := x.channel = some f ∧ c.held.channel = false ∧ f.channel = d
  (∃ now, s.AsksTurn u asked c.held.turn now ∧
    u.Tested { s.ple with todo := none } x
      { c with
        phase := .prepare, reached := false, measureTimer := none, phaseTimer := some 120000,
        held := { c.held with channel := c.held.channel || x.channel.isSome,
                              localMode := c.held.localMode || x.localMode.isSome, turn := now } }) ∧
    (∀ d, (∀ f, takes f d → u.channel d = some (bound f)) ∧ ((∀ f, ¬takes f d) → u.channel d = s.channel d)) ∧
    u.tma = (if x.localMode.isSome = true ∧ c.held.localMode = false then
      Tma.arbitrated { s.tma with planSlot := x.localMode } s.pfl.link.commPower else s.tma) ∧
    s.PointsOn u ∧ u.chu.streams = s.chu.streams ∧ u.etu = s.etu ∧ u.acr = s.acr ∧ u.blu = s.blu ∧ u.pfl = s.pfl ∧
    u.clock = s.clock ∧ u.pending = s.pending ∧ u.reports = s.reports ∧ u.draws = s.draws ∧ s.QuietPorts u

/-- What MEASURE does on entry for a step that neither concludes there nor hands over (R132, R77 to R79): its channel and its
test are started, or resumed after the first entry, and a refusal of the channel's is passed over. -/
def measures (s u : State) (x : Step) (c : StepCtx) (d : StepCtx) : Prop :=
  let t := s.etu.test
  let begun (q : ChanRec) : ChanRec :=
    if c.started then q
    else { q with remaining := q.budget, stored := 0, missed := 0, dropped := 0, gap := 0, fill := none }
  let startable (q : ChanRec) : Prop :=
    (if c.started then q.state.isHalted = true else q.state = .bound) ∧
      ∀ b ∈ q.quantity.formedFrom, (s.branch b).active = true
  let setup : TestSetup := { pols := x.pols.getD .both, duration := x.duration.getD 1, severe := s.pfl.test.percent }
  let resumes : Prop := c.started = true ∧ t.owner = some .plan ∧ t.state = .paused
  u.ple = { s.ple with ctx := some d, todo := none } ∧
    (∀ h, s.channel h = none → u.channel h = none) ∧
    (∀ h q, s.channel h = some q →
      (holdsChannel x c h → startable q → c.started = true ∨ q.budget ≠ some 0 → u.channel h = some
        { begun q with state := .running, timer := if q.quantity.isErrInterval then none else some q.interval }) ∧
      (¬holdsChannel x c h ∨ ¬startable q → u.channel h = some q)) ∧
    (x.kind ≠ .errtest ∨ (c.started = true ∧ ¬resumes) → u.etu = s.etu) ∧
    (x.kind = .errtest → resumes → u.etu.gens = s.etu.gens ∧
      u.etu.test = { t with state := .running, timer := some 1000 } ∧
      ∀ p, u.count p = if s.etu.tested p then { s.count p with current := .zero ((s.count p).sync == .hunt) } else s.count p) ∧
    (x.kind = .errtest → c.started = false → u.etu.gens = s.etu.gens ∧
      u.etu.test = { state := .running, owner := some .plan, setup := some setup, completed := 0, cause := none,
                     timer := some 1000 } ∧
      ∀ p, u.count p = { s.count p with
        current := .zero (Pols.has setup.pols p && (s.count p).sync == .hunt), outage := false, pend := [],
        totals := .zero }) ∧
    u.chu.streams = s.chu.streams ∧ u.tma = s.tma ∧ u.pcu = s.pcu ∧ u.ptu = s.ptu ∧ u.acr = s.acr ∧ u.blu = s.blu ∧
    u.pfl = s.pfl ∧ u.clock = s.clock ∧ u.pending = s.pending ∧ u.reports = s.reports ∧ u.draws = s.draws ∧ s.QuietPorts u

/-- R127 to R132, R137, R144, R147, R154: what the start of a step and the entries to PREPARE, SETTLE and MEASURE do while
the plan is RUNNING; in another plan state they do nothing. Of several branches that are OFF the first is named (log 72), a
suspension's PLAN_STATE is its newest notice (log 79), the order of the standing causes is that of its list (log 82), and
STEP_DONE tells of an entry and its items as logs 68 and 90 have it (each a DESIGN CHOICE); a released turn does not meet
the far condition (log 43), its match must have been formed against the present mode (log 20), and a polarization that is
not tested starts with hunt-seen no (log 75; each DEDUCED). A HANDOVER step's checks and digest are HandoverRules'. -/
def Obligations.PhaseEntries : Prop :=
  (∀ x : Step, stepFields x) ∧
  ∀ s : State,
    let enters (w : Todo) : State := s.hush fun s => s.perform w
    (∀ i, s.firstStart i = { index := i, attempt := 1, repeats := match (s.stepAt i).map Step.onFail with
      | some (.repeatStep n) => n
      | _ => 0 }) ∧
    (s.ple.state ≠ .running → ∀ w, enters w = s.setPle { s.ple with todo := none }) ∧
    (s.ple.state = .running →
      (∀ st x, s.stepAt st.index = some x →
        let u := enters (.start st)
        u = ((s.setPle { s.ple with
            position := some st.index, todo := some .prepare,
            ctx := some
              { attempt := st.attempt, repeats := st.repeats, phase := .prepare, half := x.firstHalf, elapsed := 0,
                started := false, phaseTimer := none, measureTimer := none, startTime := s.recTime, suspensions := 0,
                held := { channel := false, localMode := false, turn := false, test := false }, reached := false,
                testEnded := false, acc := .zero, limits := x.limits.resolve s.pfl } }).setPtu u.ptu).setDraws u.draws ∧
          (x.kind ≠ .align → u.ptu = s.ptu ∧ u.draws = s.draws) ∧
          (x.kind = .align → u.ptu.far = s.ptu.far ∧
            (∀ b, u.point b = if b ∈ x.branches then { s.point b with peak := none } else s.point b) ∧
            ∀ b rest, x.branches = b :: rest → u.ptu.pointing = b ∧
              (b = s.ptu.pointing → u.ptu = { s.ptu with recs := u.ptu.recs } ∧ u.draws = s.draws) ∧
              (b ≠ s.ptu.pointing → s.Drives u 0 none))) ∧
      ∀ x c, s.Doing x c →
        (let d : StepCtx := { c with phase := .prepare, reached := false, phaseTimer := none, measureTimer := none }
         let off := x.lossBranches.filter s.isOff
         let causes : List Cause :=
           (if off = [] then [] else [.sourceLoss]) ++ (if s.tma.settle = .fault then [.txFault] else []) ++
             if x.mutedBy s.tma.mute then [.unitMute] else []
         (∀ k rest, causes = k :: rest → s.Suspends (enters .prepare) x d k rest off.head?) ∧
         (causes = [] → x.kind ≠ .handover →
           (x.channel = none ∨ c.held.channel = true → gathers s (enters .prepare) x c 0) ∧
           ∀ f, x.channel = some f → c.held.channel = false →
             let room := firstFit (s.chu.regions (some f.channel)) 128
             let owner := (s.channel f.channel).map ChanRec.owner
             let left : State := if s.sourceFits f.quantity = true ∧ owner = some .plan then s.setChannel f.channel none else s
             (∀ first, s.sourceFits f.quantity = true → room = some first → gathers s (enters .prepare) x c first) ∧
             (s.sourceFits f.quantity = false ∨ room = none → left.Concludes (enters .prepare) x d
               { verdict := .fail, reason := some .noChannel, items := [plainItem .elapsed c.elapsed .second] }
               .byVerdict))) ∧
        (let d : StepCtx := { c with phase := .settle, phaseTimer := some 30000 }
         let still : Prop := ∀ b ∈ x.settleBranches, (s.pfl.branch b).dwell ≤ (s.point b).stable
         (still → enters .settle =
           s.setPle { s.ple with ctx := some { d with phaseTimer := none }, todo := some .measure }) ∧
         (¬still → enters .settle = s.setPle { s.ple with ctx := some d, todo := none })) ∧
        let d : StepCtx :=
          { c with phase := .measure, started := true, acc := if c.started then c.acc else .zero,
                   held := { c.held with test := c.held.test || decide (x.kind = .errtest) },
                   measureTimer := if x.kind = .errtest then none else some 1000 }
        let done : Prop := x.over c.elapsed = true
        let firstHalf : Prop := x.kind = .xpd ∧ x.pols = some .both ∧ c.half = some .h
        (done ↔ ∃ n, x.duration = some n ∧ n ≤ c.elapsed) ∧
        (done → ¬firstHalf → x.kind ≠ .handover → (x.kind = .errtest → c.started = true) →
          s.Concludes (enters .measure) x d (s.resultOf x d) .byVerdict) ∧
        (done → firstHalf → s.SwitchesHalf (enters .measure) d) ∧
        (¬done → x.kind = .wait → s.WaitMet x → s.Concludes (enters .measure) x d
          { verdict := .pass, reason := none, items := [plainItem .wakeCount d.acc.wakes .count] } .byVerdict) ∧
        (¬done → x.kind ≠ .handover → ¬(x.kind = .wait ∧ s.WaitMet x) → measures s (enters .measure) x c d))

/-- R128, R129, R131, R132, R139 and R154: what a report does to the step in progress where it raises no cause: a step in
PREPARE asks for its turn again and its conditions are tested; the samples of SETTLE are judged; an ERRTEST step follows its
test and concludes as it is complete; a parked WAIT step wakes, and passes or parks; nothing else changes. That a released
turn does not meet the far condition (log 43) and that its match must have been formed against the present mode (log 20)
are DEDUCED; how STEP_DONE tells of the entry and its items (logs 68 and 90) is DESIGN CHOICE. -/
def Obligations.ProgressRules : Prop :=
  ∀ (s : State) (r : Report) (x : Step) (c : StepCtx), s.Doing x c → s.ple.state = .running →
    (∀ k, ¬raises s x c.half c.phase c.reached r k) →
    let u := s.hush fun s => s.heed r
    let d := noted c r
    let testing : Prop := x.kind = .errtest ∧ c.phase = .measure
    let holds (e : StepCtx) : Prop := u = s.setPle { s.ple with ctx := some e }
    let wakes : Prop :=
      c.phase ≠ .prepare →
        (x.kind = .wait → c.phase = .measure →
          let e : StepCtx := { d with acc := { d.acc with wakes := min 65535 (d.acc.wakes + 1) } }
          (¬s.WaitMet x → holds e) ∧
            (s.WaitMet x → s.Concludes u x e
              { verdict := .pass, reason := none, items := [plainItem .wakeCount e.acc.wakes .count] } .byVerdict)) ∧
        (x.kind ≠ .wait ∨ c.phase ≠ .measure → holds d)
    let asks : Prop :=
      (c.phase = .prepare →
        u = ((s.setPle u.ple).setPcu u.pcu).setPif u.pif ∧ s.QuietPorts u ∧
          ∃ now, s.AsksTurn u (if d.held.turn then none else x.farModeIn c.half) d.held.turn now ∧
            u.Tested s.ple x { d with held := { d.held with turn := now } }) ∧ wakes
    match r with
    | .peerState _ _ | .turnState _ => asks
    | .farMatch _ | .transmitter =>
      (c.phase = .prepare → u = s.setPle u.ple ∧ u.Tested s.ple x c) ∧ (c.phase ≠ .prepare → holds c)
    | .sample b =>
      let waits : Prop := c.phase = .settle ∧ b ∈ x.settleBranches
      let still : Prop := ∀ b ∈ x.settleBranches, (s.pfl.branch b).dwell ≤ (s.point b).stable
      (waits → still → u = s.setPle { s.ple with ctx := some { c with phaseTimer := none }, todo := some .measure }) ∧
        (waits → ¬still → holds c) ∧ (¬waits → holds c)
    | .classChange _ _ _ => (c.phase = .prepare → holds c) ∧ wakes
    | .testProgress n => (testing → holds { c with elapsed := n }) ∧ (¬testing → holds c)
    | .testEnd .complete => (testing → s.Concludes u x c (s.resultOf x c) .byVerdict) ∧ (¬testing → holds c)
    | .testEnd _ | .branchOff _ | .txFault | .maskChange | .abort | .presenceLoss => holds c

/-- R129, R131, R132, R137 and R152: the plan engine's timers, each while its phase and its timer are those of the step
in progress; no other expiry changes anything (log 8). A step whose limit expires suspends (R147) or concludes (R133); a
measure second enters the figures, and at the duration the step concludes or goes on to its V half. That a released turn
does not meet the far condition (log 43) and that its match must have been formed against the present mode (log 20) are
DEDUCED; that a suspension's PLAN_STATE is its newest notice (log 79), and how STEP_DONE tells of the entry and its items
(logs 68 and 90), are DESIGN CHOICE. -/
def Obligations.PlanTimersComplete : Prop :=
  ∀ s : State,
    let runs (c : StepCtx) (p : StepPhase) : Prop := s.ple.state = .running ∧ c.phase = p
    let none_ (p : StepPhase) (timer : StepCtx → Timer) : Prop :=
      s.Settled ∧ ∀ x c, s.Doing x c → ¬(runs c p ∧ (timer c).isSome = true)
    (none_ .prepare StepCtx.phaseTimer → exec .prepareLimitExpiry s = .next s) ∧
    (none_ .settle StepCtx.phaseTimer → exec .settleLimitExpiry s = .next s) ∧
    (none_ .measure StepCtx.measureTimer → exec .measureExpiry s = .next s) ∧
    (s.Settled → ¬(s.ple.state = .suspended ∧ s.ple.limitTimer.isSome = true) →
      exec .suspensionLimitExpiry s = .next s) ∧
    ∀ x c, s.Doing x c →
      (runs c .prepare → c.phaseTimer.isSome = true → Reacts (exec .prepareLimitExpiry s) fun u =>
        let far : Prop := ∀ m, x.farModeIn c.half = some m → s.pcu.req = .holding .plan m false .matched m
        (s.pcu.peer ≠ .paired → ¬far → s.Suspends u x c .peerLoss [] none) ∧
          (s.pcu.peer = .paired ∨ far → s.Suspends u x c .remoteMode [] none)) ∧
      (runs c .settle → c.phaseTimer.isSome = true → Reacts (exec .settleLimitExpiry s) fun u =>
        s.QuietPorts u ∧ s.Concludes u x c
          { verdict := .fail, reason := some .settle,
            items := x.settleBranches.filterMap fun b => (s.seed b).map fun v =>
              { code := .smoothed, place := .branch b, value := v.smoothed, scale := .db10, uncal := v.flags.uncal } }
          .byVerdict) ∧
      (runs c .measure → c.measureTimer.isSome = true → Reacts (exec .measureExpiry s) fun u =>
        let d : StepCtx :=
          { c with elapsed := min 259200 (c.elapsed + 1), acc := s.second x c.half c.limits c.acc, measureTimer := some 1000 }
        let firstHalf : Prop := x.kind = .xpd ∧ x.pols = some .both ∧ c.half = some .h
        let from_ : State := if x.kind = .handover ∧ s.acr.state = .closing then
          s.setAcr { s.acr with state := .opened, localDigest := none } else s
        s.QuietPorts u ∧
          (x.over d.elapsed = false → u = s.setPle { s.ple with ctx := some d }) ∧
          (x.over d.elapsed = true → ¬firstHalf → from_.Concludes u x d (s.resultOf x d) .byVerdict) ∧
          (x.over d.elapsed = true → firstHalf →
            s.SwitchesHalf u d ∧ u.chu.streams = s.chu.streams ∧ (∀ h, s.channel h = none → u.channel h = none) ∧
              (∀ h q, s.channel h = some q →
                (holdsChannel x c h → q.state = .running →
                  u.channel h = some { q with state := .halted .command, timer := none }) ∧
                (¬holdsChannel x c h ∨ q.state ≠ .running → u.channel h = some q)) ∧
              u.tma = s.tma ∧ u.ptu = s.ptu ∧ u.etu = s.etu ∧ u.acr = s.acr ∧ u.blu = s.blu ∧ u.pfl = s.pfl ∧
              u.clock = s.clock ∧ u.pending = s.pending ∧ u.reports = s.reports)) ∧
      ∀ r, s.ple.state = .suspended → s.ple.limitTimer.isSome = true → s.ple.susp = some r →
        Reacts (exec .suspensionLimitExpiry s) fun u =>
          s.QuietPorts u ∧ s.Concludes u x c
            { verdict := .aborted, reason := some (.cause r.primary), items := [plainItem .elapsed c.elapsed .second] }
            .limit

/-! ## Ports -/

/-- R182: what the installer's meter leaves behind when it is detached, each freed channel with its notice (R64), and what
attaching one begins. That a request torn down at once ends with reason TORN_DOWN is the model's reading of R105 beside
R117 (DEDUCED, log 51). That the receiver's disregarding stays over both is the model's too (DEDUCED, log 48), and so is
what a test's end leaves of its interval (DESIGN CHOICE, log 59). -/
def Obligations.PresenceCompletes : Prop :=
  (∀ s : State, s.Settled → s.pif.present = false → exec .presenceLoss s = .next s) ∧
  (∀ s : State, s.pif.present = true → exec .presenceAttach s = .next s) ∧
  (∀ s : State, s.pif.present = false → Completes (exec .presenceAttach s) fun t =>
    t = s.setPif { s.pif with present := true, ports := { s.pif.ports with installer := .reset 0 } }) ∧
  ∀ s : State, s.pif.present = true → Reacts (exec .presenceLoss s) fun u =>
    u.pif.present = false ∧ u.port .installer = .reset 0 ∧ u.pif.resync = s.pif.resync ∧ u.pif.resetDue = s.pif.resetDue ∧
      (u.port .unit).inService = (s.port .unit).inService ∧ (u.port .unit).response = (s.port .unit).response ∧
      (u.port .unit).refusal = (s.port .unit).refusal ∧ (u.port .unit).mask = (s.port .unit).mask ∧
      u.tma = Tma.arbitrated { s.tma with instSlot := none } s.pfl.link.commPower ∧
      u.stream .installer = none ∧ u.stream .unit = s.stream .unit ∧
      (∀ c, s.channel c = none → u.channel c = none) ∧
      (∀ c r, s.channel c = some r → r.owner = .installer → u.channel c = none ∧
        u.Told .channelState (channelTold c (some .installer) (some r.state) none (some .ownerLost))) ∧
      (∀ c r, s.channel c = some r → r.owner ≠ .installer →
        u.channel c = some { r with stream := if r.stream = some .installer then none else r.stream }) ∧
      (s.etu.test.owner ≠ some .installer → u.etu = s.etu) ∧
      (s.etu.test.owner = some .installer →
        (s.etu.test.active = false → u.etu = { s.etu with test := { s.etu.test with owner := none } }) ∧
        (s.etu.test.active = true → u.etu.gens = s.etu.gens ∧
          u.etu.test = { s.etu.test with state := .stopped, timer := none, cause := some .ownerLost, owner := none } ∧
          ∀ q, u.count q = if s.etu.tested q then (s.count q).ended else s.count q)) ∧ s.PointsOn u ∧ u.draws = s.draws ∧
      (s.pcu.req.requester ≠ some .installer → u.pcu = s.pcu) ∧
      (s.pcu.req.requester = some .installer → u.pcu = s.pcu.afterRelease ∧
        (s.pcu.releasedSide = .none → .turnState (some (.installer, .tornDown)) ∈ u.reports)) ∧
      .presenceLoss ∈ u.reports ∧ u.blu = s.blu ∧ u.ple = s.ple ∧ u.acr = s.acr ∧ u.pfl = s.pfl ∧ u.clock = s.clock ∧
      u.pending = s.pending

/-- A frame of a kind is delivered whole by the installer port, which is otherwise as it was (R176, R177, R181). -/
def deliveredToInstaller (s t : State) (k : FrameKind) (f : OutFrame) : Prop :=
  let r := s.port .installer
  let q := t.port .installer
  t = s.setPif t.pif ∧ q.out = .frame f true ∧ t.port .unit = s.port .unit ∧ t.pif.present = s.pif.present ∧
    t.pif.resync = s.pif.resync ∧ t.pif.resetDue = (s.pif.resetDue || f.resets) ∧ q.mask = r.mask ∧
    (k = .response → q.inService = none ∧ q.response = none ∧ q.refusal = r.refusal ∧ q.queue = r.queue) ∧
    (k = .refusal → q.inService = r.inService ∧ q.response = r.response ∧ q.refusal = none ∧ q.queue = r.queue) ∧
    (k = .notice → q.inService = r.inService ∧ q.response = r.response ∧ q.refusal = r.refusal ∧
      q.queue = r.queue.tail ∧ q.overflow = false)

/-- R181: a port's record after a notice is posted. A copy stands at the end of the queue where the mask holds its kind; a
queue of 16 loses its oldest notice first, but not one whose sending has begun, and overflow pending becomes yes. -/
def posted (r q : PortRec) (n : Notice) : Prop :=
  let taken : Prop := r.mask.getLsbD (NoticeKind.num n.kind - 1) = true
  q.out = r.out ∧ (¬taken → q.queue = r.queue ∧ q.overflow = r.overflow) ∧
    (taken → r.queue.length < 16 → q.queue = r.queue ++ [n] ∧ q.overflow = r.overflow) ∧
    (taken → 16 ≤ r.queue.length → q.overflow = true ∧
      (r.headBegun = false → q.queue = r.queue.drop 1 ++ [n]) ∧
      (r.headBegun = true → q.queue = r.queue.take 1 ++ r.queue.drop 2 ++ [n]))

/-- R175 to R177, R181 and R183. A posted notice is queued at each port by its mask; an idle installer port on modes 0 and
2 begins to send at once (DEDUCED, log 17). The attention line says that something waits at the unit port. What is sent is
formed as it stands at each sending: a held refusal's count (DESIGN CHOICE, log 88), and a notice's OVERFLOW (DEDUCED, log
16), also at an acknowledge (DESIGN CHOICE, log 91). A read of the unit port takes the response, then the refusal, then
the oldest notice; it delivers what is clocked out whole, keeps what is not, and finds NOT_READY where nothing waits (log
39). The installer port's transports: frames sent on modes 0 and 2, reads and acknowledges on mode 1, and the two ways in
which an incomplete frame is discarded; as the frame had begun, nothing is disregarded any more (DEDUCED, log 62). What a
read of mode 1 begins and delivers by its count of bytes is the model's reading (DEDUCED, log 39), and so is that a notice
shown holds back no response (DEDUCED, log 18). -/
def Obligations.PortEventsComplete : Prop :=
  (∀ (s : State) (kind : NoticeKind) (payload : List Field),
    let t := s.post kind payload
    let n : Notice := { kind := kind, payload := payload }
    t = s.setPif t.pif ∧ s.QuietPorts t ∧ (∀ p, posted (s.port p) (t.port p) n) ∧
      (t.port .unit).begun = (s.port .unit).begun ∧ (t.port .unit).headBegun = (s.port .unit).headBegun ∧
      let r := s.port .installer
      let q := t.port .installer
      let idle : Prop := s.pif.present = true ∧ s.iptMode ≠ 1 ∧ r.begun = none
      (¬idle → q.begun = r.begun ∧ q.headBegun = r.headBegun) ∧
        (idle → (q.response.isSome = true → q.begun = some .response) ∧
          (q.response = none → q.refusal.isSome = true → q.begun = some .refusal) ∧
          (q.response = none → q.refusal = none → q.queue ≠ [] → q.begun = some .notice ∧ q.headBegun = true) ∧
          (q.response = none → q.refusal = none → q.queue = [] → q.begun = none))) ∧
  [NoticeKind.peerState, .turnState, .classChange, .peakAdvance, .channelState, .txState, .testDone, .stepDone, .planState,
    .suspended, .entryAppended, .profileStatus].map NoticeKind.num = [1, 2, 3, 4, 5, 6, 7, 8, 9, 10, 11, 12] ∧
  (∀ s : State,
    let r := s.port .unit
    s.attention = true ↔ r.response ≠ none ∨ r.refusal ≠ none ∨ r.queue ≠ []) ∧
  (∀ r : PortRec,
    r.content .response = r.response.map .response ∧
      (∀ n rest, r.queue = n :: rest → r.content .notice = some (.notice n r.overflow)) ∧
      (r.queue = [] → r.content .notice = none) ∧ (r.refusal = none → r.content .refusal = none) ∧
      ∀ x, r.refusal = some x → r.content .refusal = some (.response
        { status := .busy, echo := x.echo, clamped := false, discarded := false, payload := [.u 1 x.count] })) ∧
  (∀ (n : Nat) (s : State),
    let r := s.port .unit
    (r.begun = none → r.toSend =
      if r.response.isSome then some .response
      else if r.refusal.isSome then some .refusal
      else if r.queue = [] then none else some .notice) ∧
    (∀ k, r.begun = some k → r.toSend = some k) ∧
    (n = 0 → exec (.unitPortRead n) s = .next s) ∧
    (0 < n → r.toSend.bind r.content = none → Completes (exec (.unitPortRead n) s) fun t =>
      t = s.setPort .unit { r with out := .notReady }) ∧
    ∀ k f, r.toSend = some k → r.content k = some f →
      (n < 2 → exec (.unitPortRead n) s = .next s) ∧
      (2 ≤ n → n ≤ f.bytes.length → Completes (exec (.unitPortRead n) s) fun t =>
        t = s.setPort .unit
          { r with begun := some k, headBegun := r.headBegun || k == .notice, out := .frame f false }) ∧
      (f.bytes.length < n → Completes (exec (.unitPortRead n) s) fun t =>
        t = s.setPif t.pif ∧ (t.port .unit).out = .frame f true ∧ t.port .installer = s.port .installer ∧
          t.pif.present = s.pif.present ∧ t.pif.resync = s.pif.resync ∧
          t.pif.resetDue = (s.pif.resetDue || f.resets) ∧ (t.port .unit).mask = r.mask ∧
          (k = .response → (t.port .unit).inService = none ∧ (t.port .unit).response = none ∧
            (t.port .unit).refusal = r.refusal ∧ (t.port .unit).queue = r.queue) ∧
          (k = .refusal → (t.port .unit).inService = r.inService ∧ (t.port .unit).response = r.response ∧
            (t.port .unit).refusal = none ∧ (t.port .unit).queue = r.queue) ∧
          (k = .notice → (t.port .unit).inService = r.inService ∧ (t.port .unit).response = r.response ∧
            (t.port .unit).refusal = r.refusal ∧ (t.port .unit).queue = r.queue.tail ∧
            (t.port .unit).overflow = false))) ∧
  ∀ s : State,
    let r := s.port .installer
    (s.pif.present = true → s.iptMode = 0 → Completes (exec .frameGapTimeout s) fun t =>
      t = s.setPif { s.pif with resync := false }) ∧
    (s.pif.present = false ∨ s.iptMode ≠ 0 → exec .frameGapTimeout s = .next s) ∧
    (s.pif.present = true → s.iptMode = 2 → Completes (exec .frameRestartDiscard s) fun t =>
      t = s.setPif { s.pif with resync := false }) ∧
    (s.pif.present = false ∨ s.iptMode ≠ 2 → exec .frameRestartDiscard s = .next s) ∧
    (s.pif.present = false ∨ s.iptMode = 1 → exec .installerFrameSent s = .next s) ∧
    (r.begun.bind r.content = none → exec .installerFrameSent s = .next s) ∧
    (∀ k f, s.pif.present = true → s.iptMode ≠ 1 → r.begun = some k → r.content k = some f →
      Completes (exec .installerFrameSent s) fun t => deliveredToInstaller s t k f) ∧
    (s.pif.present = false ∨ s.iptMode ≠ 1 →
      exec .noticeAcknowledge s = .next s ∧ ∀ n, exec (.installerBusRead n) s = .next s) ∧
    (r.queue = [] → exec .noticeAcknowledge s = .next s) ∧
    (∀ f, s.pif.present = true → s.iptMode = 1 → r.content .notice = some f →
      Completes (exec .noticeAcknowledge s) fun t => deliveredToInstaller s t .notice f) ∧
    ∀ n, s.pif.present = true → s.iptMode = 1 →
      (0 < n → r.toSend = none → Completes (exec (.installerBusRead n) s) fun t =>
        t = s.setPort .installer { r with out := .notReady }) ∧
      (∀ f, 2 ≤ n → r.toSend = some .notice → r.content .notice = some f →
        Completes (exec (.installerBusRead n) s) fun t =>
          t = s.setPort .installer { r with headBegun := true, out := .frame f (decide (f.bytes.length < n)) }) ∧
      ∀ k f, k ≠ .notice → r.toSend = some k → r.content k = some f →
        (2 ≤ n → n ≤ f.bytes.length → Completes (exec (.installerBusRead n) s) fun t =>
          t = s.setPort .installer { r with begun := some k, out := .frame f false }) ∧
        (f.bytes.length < n → Completes (exec (.installerBusRead n) s) fun t => deliveredToInstaller s t k f)

/-- R175, R176 and R183: on each transport a complete request frame arrives as the command its bytes spell, behind the
commands that wait; the other transactions, the acknowledge, the gap and the restart arrive as theirs, and what is
outside a frame as none. A start byte that follows a gap, and a first word, end what the receiver disregards (R177). What
the part sends is READY and the frame, or NOT_READY and filler, on the mode that its straps select; while no meter is
attached the installer port sends and takes nothing. How a frame ends on modes 0 and 2, and what is disregarded where R176
is silent, is the model's (DEDUCED and DESIGN CHOICE, log 62). -/
def Obligations.TransportsCarryFrames : Prop :=
  let ended (s : State) : State := s.setPif { s.pif with resync := false }
  (∀ (s : State) (bytes : List Byte) (i : Instr),
    (decodeRequest .unit false bytes = some i → s.unitTransaction (0x57 :: bytes) = s.enqueue [i]) ∧
    (s.pif.present = true → s.iptMode = 0 → frameComplete bytes = true → ∀ gap (xs : List (Nat × Byte)),
      20 ≤ gap ∨ s.pif.resync = false → xs.map Prod.snd = bytes → (∀ x ∈ xs, x.1 ≤ 20) →
      decodeRequest .installer (decide (20 ≤ gap)) bytes = some i →
      s.asyncBytes none ((gap, 0x7E) :: xs) = ((if 20 ≤ gap then ended s else s).enqueue [i], none)) ∧
    (s.pif.present = true → s.iptMode = 1 → decodeRequest .installer false bytes = some i →
      let a := busAddress s.pfl.straps
      s.busWrite a (0x00 :: bytes) = s.enqueue [i] ∧
        s.busWrite a (0x81 :: 0x00 :: bytes) = s.enqueue [.noticeAcknowledge, i]) ∧
    (s.pif.present = true → s.iptMode = 2 → frameComplete bytes = true → decodeRequest .installer false bytes = some i →
      s.words none (frameWords bytes) = ((ended s).enqueue [i], none) ∧
        ∀ x, s.words (some x) (frameWords bytes) = ((ended s).enqueue [.frameRestartDiscard, i], none))) ∧
  (∀ (s : State) (rest : List Byte) (k : Byte),
    s.unitTransaction (0x52 :: rest) = s.enqueue [.unitPortRead rest.length] ∧
    (k ≠ 0x57 → k ≠ 0x52 → s.unitTransaction (k :: rest) = s) ∧
    (s.pif.present = true → s.iptMode = 0 → ∀ x gap b, 20 < gap →
      s.asyncByte (some x) gap b = (s.enqueue [.frameGapTimeout]).asyncStart gap b) ∧
    (s.pif.present = true → s.iptMode = 0 → ∀ gap b, b ≠ 0x7E → s.asyncByte none gap b = (s, none)) ∧
    (s.pif.present = true → s.iptMode = 0 → s.pif.resync = true → ∀ gap b, gap < 20 → s.asyncByte none gap b = (s, none)) ∧
    (s.pif.present = true → s.iptMode = 1 →
      let a := busAddress s.pfl.straps
      (a = if s.pfl.straps.iptAddr = 0 then 0x2C else 0x2D) ∧
        s.busWrite a (0x01 :: rest) = s.enqueue [.noticeAcknowledge] ∧
        ∀ n, s.busRead a n = s.enqueue [.installerBusRead n]) ∧
    (∀ a, a ≠ busAddress s.pfl.straps → s.busWrite a rest = s ∧ ∀ n, s.busRead a n = s) ∧
    (s.pif.present = true → s.iptMode = 2 → ∀ ws : List (BitVec 9), (∀ w ∈ ws, w.getLsbD 8 = false) →
      s.words none ws = (s, none)) ∧
    (s.pif.present = false → (∀ rx gap, s.asyncByte rx gap k = (s, none)) ∧ (∀ rx w, s.word rx w = (s, none)) ∧
      (∀ a, s.busWrite a rest = s) ∧ s.asyncSends = [] ∧ s.wordSends = [] ∧ ∀ a n, s.busRead a n = s ∧ s.busSends a n = [])) ∧
  ∀ (r : PortRec) (s : State) (n : Nat),
    (r.next = none → r.readBytes n = List.replicate n 0) ∧
    (∀ f, r.next = some f →
      (n ≤ f.bytes.length → r.readBytes (n + 1) = 0xA5 :: f.bytes.take n) ∧
      (f.bytes.length ≤ n → r.readBytes (n + 1) = 0xA5 :: (f.bytes ++ List.replicate (n - f.bytes.length) 0))) ∧
    s.unitSends 0x57 n = List.replicate n 0 ∧ s.unitSends 0x52 n = (s.port .unit).readBytes n ∧
    (∀ a, (a ≠ busAddress s.pfl.straps ∨ s.iptMode ≠ 1 → s.busSends a n = []) ∧
      (s.pif.present = true → s.iptMode = 1 → a = busAddress s.pfl.straps →
        s.busSends a n = (s.port .installer).readBytes n)) ∧
    (s.iptMode ≠ 0 → s.asyncSends = []) ∧ (s.iptMode ≠ 2 → s.wordSends = []) ∧
    ((s.port .installer).begun.bind (s.port .installer).content = none →
      s.asyncSends = [] ∧ (s.pif.present = true → s.iptMode = 2 → s.wordSends = [0])) ∧
    ∀ k f, s.pif.present = true → (s.port .installer).begun = some k → (s.port .installer).content k = some f →
      (s.iptMode = 0 → s.asyncSends = 0x7E :: f.bytes) ∧
      (s.iptMode = 2 → s.wordSends.map (BitVec.setWidth 8) = f.bytes ∧
        s.wordSends.map (fun w => w.getLsbD 8) = true :: List.replicate (f.bytes.length - 1) false)

/-! ## Requests that only read -/

/-- R178: how a payload tells a field that may be absent, a group of such fields, a list, a yes or no, and a budget. -/
def encodings : Prop :=
  (∀ w n, optU w (some n) = [.u 1 1, .u w n] ∧ optU w none = [.u 1 0, .u w 0]) ∧
    (∀ (w : Nat) (v : Int), optS w (some v) = [.u 1 1, .s w v] ∧ optS w none = [.u 1 0, .s w 0]) ∧
    (∀ n fs, optGroup n (some fs) = .u 1 1 :: fs ∧ optGroup n none = [.u 1 0, .u n 0]) ∧
    (∀ xs, listOf xs = .u 1 xs.length :: xs.flatten) ∧ yes true = .u 1 0 ∧ yes false = .u 1 1 ∧
    (∀ n, budgetField (some n) = .u 3 n) ∧ budgetField none = .u 3 16777215

/-- A set's values in the order in which it is given in full are numbered from a first number on. -/
def numberedFrom {α : Type} (first : Nat) (num : α → Nat) (set : List α) : Prop :=
  set.map num = (List.range set.length).map (first + ·)

/-- R178 and R185: the numbers of the named sets that the status payloads carry (log 14; the class of a pending interval is
log 66's). -/
def numbers : Prop :=
  numberedFrom 0 Branch.num [.mh, .mv, .dh, .dv] ∧ numberedFrom 0 Pol.num [.h, .v] ∧
  numberedFrom 0 Pols.num [.h, .v, .both] ∧ numberedFrom 0 Origin.num [.profile, .default] ∧
  numberedFrom 0 TempStatus.num [.unset, .fresh, .stale] ∧
  numberedFrom 0 LobeClass.num [.none, .unreferenced, .noSignal, .offPath, .side, .skirt, .main, .above, .cross] ∧
  numberedFrom 0 PredReason.num [.unreferenced, .cross, .none] ∧
  numberedFrom 0 Cadence.num [.continuous, .four, .two, .one, .silent] ∧
  numberedFrom 1 Scale.num [.db10, .db100, .count, .millivolt, .second] ∧
  numberedFrom 0 ownerNum [none, some .installer, some .unit, some .plan] ∧
  numberedFrom 0 Party.num [.installer, .unit, .plan] ∧ numberedFrom 0 streamNum [none, some .installer, some .unit] ∧
  (∀ k, numberedFrom 0 chanStateNum [none, some .bound, some .running, some (.halted k), some .done]) ∧
  numberedFrom 0 HaltCause.num [.command, .sourceLost, .suspended] ∧
  numberedFrom 0 StateCause.num [.command, .sourceLost, .suspended, .ownerLost] ∧
  numberedFrom 0 Policy.num [.lose, .overwrite] ∧
  (∀ b d e fine f g h k, numberedFrom 0 Quantity.num
    [.rawCode b, .level d, .smoothed e fine, .deviation f, .fadeMargin g, .xpd .h, .xpd .v, .divDiff .h, .divDiff .v,
      .farSmoothed h, .errInterval k]) ∧
  numberedFrom 0 TestState.num [.idle, .running, .paused, .stopped] ∧
  numberedFrom 0 EndCause.num [.complete, .command, .preempted, .replaced, .ownerLost, .closed, .reset] ∧
  numberedFrom 0 Sync.num [.hunt, .sync] ∧ numberedFrom 0 IntervalClass.num [.clean, .errored, .severe] ∧
  numberedFrom 0 RequestMode.num [.traffic, .cwBoth, .cwH, .cwV, .pattern, .off] ∧
  numberedFrom 0 TxState.num [.off, .cw, .pattern, .traffic] ∧
  numberedFrom 0 SettleState.num [.settled, .settling, .fault] ∧
  numberedFrom 0 Winner.num [.peer, .plan, .installer, .default] ∧
  (∀ k, numberedFrom 0 PeerState.num [.solo, .heard, .mismatch k, .paired]) ∧
  numberedFrom 0 MismatchReason.num [.linkId, .sameEnd, .unset] ∧
  numberedFrom 0 TurnState.num [.none, .requesting, .holding, .deferred, .granted, .deferredGranted] ∧
  numberedFrom 0 FarMatch.num [.matched, .settling, .different] ∧ numberedFrom 0 Indication.num [.none, .ready, .closed] ∧
  numberedFrom 0 StepKind.num [.align, .level, .xpd, .diversity, .errtest, .soak, .wait, .handover] ∧
  (∀ n, numberedFrom 0 OnFail.num [.stop, .continueOn, .repeatStep n]) ∧
  numberedFrom 0 WaitCond.num [.peerPaired, .turnFree, .timeOnly] ∧
  numberedFrom 0 PlanState.num [.idle, .loaded, .running, .paused, .suspended, .halted, .complete, .closed] ∧
  numberedFrom 0 HaltReason.num [.onFail, .recordFull, .suspensionLimit] ∧
  numberedFrom 0 StepPhase.num [.prepare, .settle, .measure, .conclude] ∧
  numberedFrom 0 Cause.num [.unitMute, .txFault, .remoteMode, .peerLoss, .sourceLoss, .installerAbort] ∧
  numberedFrom 0 PauseReason.num [.pause, .stepped] ∧
  numberedFrom 0 PlanReason.num
    [.run, .stop, .reset, .load, .suspend, .continued, .restart, .skip, .resume, .complete, .close, .reopen, .onFail,
      .recordFull, .suspensionLimit, .pause, .stepped] ∧
  numberedFrom 0 Verdict.code [.pass, .fail, .waived, .aborted, .incomplete] ∧
  numberedFrom 0 Reason.code
    [.limit, .noData, .settle, .noChannel, .forced, .timeout, .stopped, .cause .unitMute, .cause .txFault,
      .cause .remoteMode, .cause .peerLoss, .cause .sourceLoss, .cause .installerAbort, .openItems, .noRoom,
      .noPeerEcho] ∧
  numberedFrom 0 EntryKind.code [.stepResult, .waiver, .profileChanged, .reopened, .handover] ∧
  numberedFrom 0 RecordState.num [.opened, .closing, .closed] ∧
  numberedFrom 0 ProfileStatus.num [.reading, .memory, .port, .default, .bad] ∧
  numberedFrom 0 RejectReason.num
    [.format, .length, .incomplete, .check, .offset, .sectionCount, .sectionLength, .order, .range]

/-- BRANCH_STATUS (R180). The widths of the slope and of the temperature are log 53's. -/
def branchLayout (s : State) : List Field :=
  ([Branch.mh, .mv, .dh, .dv].flatMap fun b =>
    let r := s.branch b
    [yes r.fitted, .u 1 (if r.active then 1 else 0), yes r.seed.isSome, .u 1 (Origin.num r.origin), .s 2 r.slope,
      .u 1 r.shift]) ++ [.s 2 s.blu.temp.held, .u 1 (TempStatus.num s.blu.temp.status)]

/-- READ_VALUE (R17, R35). The places of NOMINAL and AT_LEAST are log 54's, and bit 7 of the flags log 63's. -/
def figureLayout (q : Quantity) (x : Figure) : List Field :=
  let code : Bool := match q with
    | .rawCode _ => true
    | _ => false
  let marks : List Field := match q with
    | .deviation _ => [yes x.nominal]
    | .xpd _ => [yes x.atLeast]
    | _ => []
  [if code then .u 2 x.value.toNat else .s 2 x.value, .u 1 (Scale.num q.scale)] ++ marks ++
    [.u 1 x.flags.byte, .u 4 x.time]

/-- POINTING_STATUS (R40). The place of the predicted level's NOMINAL is log 54's. -/
def pointingLayout (s : State) : List Field :=
  let p := s.ptu
  let far : FarSource → List Field
    | .nominal => .u 1 0 :: optS 2 none
    | .reported w => .u 1 1 :: optS 2 (some w)
    | .off => .u 1 2 :: optS 2 none
  let one (b : Branch) : List Field :=
    let r := s.point b
    let predicted : List Field := match r.pred with
      | .level v n => optS 2 (some v) ++ [yes n] ++ optU 1 none
      | .absent k => optS 2 none ++ [yes false] ++ optU 1 (some (PredReason.num k))
    let excess : Option Int := match r.peak, r.pred with
      | some k, .level v _ => some (k.held - v)
      | _, _ => none
    predicted ++ optS 2 r.dev ++ [.u 1 (LobeClass.num r.cls)] ++ optU 1 (r.cand.map fun k => LobeClass.num k.1) ++
      optU 1 (r.cand.map fun k => k.2) ++ [.u 2 r.stable] ++ optS 2 (r.peak.map Peak.held) ++
      optS 2 (r.peak.map Peak.marker) ++ [yes (s.falsePeak b)] ++ optS 2 excess
  [.u 1 (Branch.num p.pointing), .u 2 p.voltage, .u 2 p.freq, .u 1 (Cadence.num p.cadence)] ++ far p.far.h ++ far p.far.v ++
    one .mh ++ one .mv ++ one .dh ++ one .dv ++
    [Branch.mh, .mv, .dh, .dv].map fun b => yes (s.atPeak b s.pfl.windows.tolerance)

/-- CHANNEL_STATUS (R63), before the largest free run. The entries of the FILLING page are absent where there is none (log
58); the source byte of a quantity whose source is none is 0 (log 56). -/
def channelLayout : Option ChanRec → List Field
  | none => [.u 1 0, .u 1 0]
  | some r =>
    let halt : Option HaltCause := match r.state with
      | .halted k => some k
      | _ => none
    let source : Nat := match r.quantity with
      | .rawCode b | .level b | .smoothed b _ | .deviation b | .fadeMargin b | .farSmoothed b => Branch.num b
      | .errInterval p => Pol.num p
      | .xpd _ | .divDiff _ => 0
    let pages (kind : Nat) : Nat := (r.pages.filter fun
      | .free => kind == 0
      | .filling _ _ => kind == 1
      | .ready _ _ => kind == 2).length
    let filling : Option Nat := r.fill.bind fun i => match r.pages[i]? with
      | some (.filling _ es) => some es.length
      | _ => none
    [.u 1 (ownerNum (some r.owner)), .u 1 (chanStateNum (some r.state))] ++ optU 1 (halt.map HaltCause.num) ++
      [.u 1 r.quantity.num, .u 1 source, .u 1 (Scale.num r.quantity.scale), .u 2 r.interval, budgetField r.budget,
        budgetField r.remaining, .u 4 r.stored, .u 2 r.missed, .u 2 r.dropped, .u 2 r.gap, .u 1 r.pageSize,
        .u 1 r.pageCount, .u 1 (Policy.num r.policy), yes r.hold, .u 2 r.first, .u 1 (pages 0), .u 1 (pages 1),
        .u 1 (pages 2)] ++ optU 1 filling ++ [.u 1 (streamNum r.stream)]

/-- TEST_STATUS (R82). -/
def testLayout (s : State) : List Field :=
  let x := s.etu.test
  let one (p : Pol) : List Field :=
    let r := s.count p
    let n := r.totals
    [yes (s.etu.tested p), .u 1 (Sync.num r.sync), .u 1 (if r.outage then 1 else 0), .u 4 n.clean, .u 4 n.errored,
        .u 4 n.severe, .u 4 n.outage, .u 8 n.bits, .u 8 n.bitErrors, .u 2 n.syncLosses, .u 1 r.pend.length] ++
      (r.pend.map fun k => .u 1 (IntervalClass.num k)) ++
      [.u 4 r.current.blocks, .u 4 r.current.errored, .u 8 r.current.bitErrors, yes r.current.hunt]
  [.u 1 (TestState.num x.state), .u 1 (ownerNum x.owner)] ++ optU 1 (x.setup.map fun y => Pols.num y.pols) ++
    optU 4 (x.setup.map TestSetup.duration) ++ optU 1 (x.setup.map TestSetup.severe) ++ [.u 4 x.completed] ++
    optU 1 (x.cause.map EndCause.num) ++ one .h ++ one .v

/-- TX_STATUS (R95). The power sent while UNSET is log 61's. -/
def txLayout (s : State) : List Field :=
  let x := s.tma
  let slot (m : Option RequestMode) : List Field := optU 1 (m.map RequestMode.num)
  let comm := s.pfl.link.commPower
  slot x.peerSlot ++ slot x.planSlot ++ slot x.instSlot ++
    [.u 1 (Winner.num x.winner), .u 1 (TxState.num x.result.1), .u 1 (TxState.num x.result.2),
      .u 1 (x.mute.h.toNat + 2 * x.mute.v.toNat), .u 1 (TxState.num x.driven.h), .u 1 (TxState.num x.driven.v),
      yes x.driven.freeze.isSome] ++ optS 2 x.driven.freeze ++ [.u 1 x.change, .u 1 (SettleState.num x.settle)] ++
    optU 2 (if x.settle = .settling then x.timer else none) ++
    [.s 2 (x.power.getD 0), .u 1 (if x.power.isSome then 0 else 1),
      .s 2 (if x.driven.freeze.isSome then comm else x.power.getD comm)]

/-- A frame's fields in PEER_STATUS: their order is log 49's, the levels' form log 77's and the local digest's log 83's. -/
def frameLayout (f : PeerFrame) : List Field :=
  let level (b : Branch) : List Field := match f.levels.get b with
    | some (v, k) => [.s 2 v, .u 1 (128 + k.byte)]
    | none => [.s 2 0, .u 1 0]
  [.u 1 (if f.phase then 1 else 0), .u 2 f.linkId, .u 1 (if f.letter = .a then 0 else 1), .u 1 (TxState.num f.h),
      .u 1 (TxState.num f.v), .u 1 (SettleState.num f.settle), .u 1 (f.mute.h.toNat + 2 * f.mute.v.toNat),
      .s 2 f.power] ++
    level .mh ++ level .mv ++ level .dh ++ level .dv ++ optU 1 (f.req.map RequestMode.num) ++
    [.u 1 (if f.grant then 1 else 0), .u 1 (Indication.num f.ind), .u 2 f.digest.toNat] ++
    optU 2 (f.echo.map BitVec.toNat)

/-- PEER_STATUS (R116). The width of the time since the last frame is log 50's, and an own frame not composed yet log 67's. -/
def peerLayout (s : State) : List Field :=
  let p := s.pcu
  let frame (f : Option PeerFrame) : List Field := optGroup 31 (f.map frameLayout)
  let reason : Option MismatchReason := match p.peer with
    | .mismatch k => some k
    | _ => none
  let turn : TurnState := match p.req, p.grant with
    | .none, none => .none
    | .none, some _ => .granted
    | .requesting _ _, _ => .requesting
    | .holding _ _ _ _ _, _ => .holding
    | .deferred _ _, none => .deferred
    | .deferred _ _, some _ => .deferredGranted
  let asked : Option (Party × RequestMode) := match p.req with
    | .none => none
    | .requesting w m | .deferred w m | .holding w m _ _ _ => some (w, m)
  let held : Option (Bool × FarMatch) := match p.req with
    | .holding _ _ released x _ => some (released, x)
    | _ => none
  [.u 1 (PeerState.num p.peer)] ++ optU 1 (reason.map MismatchReason.num) ++
    optU 4 (p.takenAt.map fun n => (s.clock.ms + 4294967296 - n) % 4294967296) ++ frame p.last ++ frame p.own ++
    [.u 1 (TurnState.num turn), yes p.silent] ++ optU 1 (asked.map fun x => Party.num x.1) ++
    optU 1 (asked.map fun x => RequestMode.num x.2) ++ optU 1 (held.map fun x => if x.1 then 0 else 1) ++
    optU 1 (p.grant.map RequestMode.num) ++ optU 1 (held.map fun x => FarMatch.num x.2) ++
    optU 2 (p.hold.map (· / 1000))

/-- A suspension record in SUSPENDED and PLAN_STATUS (R147). The mark of the time is log 89's. -/
def suspensionLayout (r : SuspRec) : List Field :=
  let tx (x : TxPicture) : List Field := [.u 1 (TxState.num x.h), .u 1 (TxState.num x.v), .u 1 (SettleState.num x.settle)]
  [.u 1 (Cause.num r.primary), .u 1 r.causes.length] ++ (r.causes.map fun k => .u 1 (Cause.num k)) ++
    [.u 1 r.index, .u 1 r.attempt, .u 1 (StepPhase.num r.phase), .u 4 r.elapsed, .u 4 r.time.value, yes r.time.unset] ++
    optGroup 3 (r.localTx.map tx) ++ optGroup 3 (r.farTx.map tx) ++
    optGroup 3 (r.peerTurn.map fun x => [.u 1 (PeerState.num x.peer), .u 1 (TurnState.num x.turn), yes x.silent]) ++
    optU 1 (r.branch.map Branch.num) ++ optGroup 3 (r.remaining.map fun n => [budgetField n])

/-- The accumulators of a step's kind in PLAN_STATUS, with their means (R136 to R140, R143, R154). The widths of the sums
are log 69's. -/
def figuresLayout (a : Acc) (x : Step) : List Field :=
  let both : List Pol := [Pol.h, .v]
  let measured : List Pol := both.filter fun p => x.pols.any fun q => Pols.has q p
  let covered : List Pol := both.filter fun p => decide (Pol.main p ∈ x.branches ∧ Pol.div p ∈ x.branches)
  let each {α : Type} (of : List α) (fields : α → List Field) : List Field := .u 1 of.length :: of.flatMap fields
  match x.kind with
  | .level => each x.branches fun b =>
    let r := a.level.get b
    [.s 4 r.levelSum, .s 4 r.predSum, .u 2 r.count, yes r.nominal, yes r.uncal] ++ optS 2 (mean r.levelSum r.count) ++
      optS 2 (mean r.predSum r.count)
  | .xpd => each measured fun p =>
    let r := a.xpd.get p
    [.s 4 r.sum, .u 2 r.count, yes r.atLeast, yes r.uncal] ++ optS 2 (mean r.sum r.count)
  | .diversity => each covered fun p =>
    let r := a.div.get p
    [.s 4 r.signed, .s 4 r.magn, .u 2 r.count, yes r.uncal] ++ optS 2 (mean r.signed r.count) ++
      optS 2 (mean r.magn r.count)
  | .soak => each x.branches fun b =>
    let r := a.soak.get b
    optS 2 (r.range.map Prod.fst) ++ optS 2 (r.range.map Prod.snd) ++
      [.u 4 r.below, .u 4 r.events, yes r.flag, .u 4 r.count, yes r.uncal]
  | .wait => [.u 2 a.wakes]
  | .align | .errtest | .handover => []

/-- PLAN_STATUS (R143). The zeros of an absent record are log 25's, and the limits of every kind log 70's. -/
def planLayout (s : State) : List Field :=
  let p := s.ple
  let pause (r : PauseRec) : List Field :=
    [.u 1 (PauseReason.num r.reason), .u 1 r.next.index, .u 1 r.next.attempt, .u 1 r.next.repeats, .u 4 r.time.value,
        yes r.time.unset, .u 1 r.seen.length] ++ r.seen.map fun k => .u 1 (Cause.num k)
  let step (x : Step) (c : StepCtx) : List Field :=
    let l := c.limits
    [.u 1 (StepKind.num x.kind), .u 1 c.attempt, .u 1 c.repeats, .u 1 (StepPhase.num c.phase)] ++
      optU 1 (c.half.map Pol.num) ++ [.u 4 c.elapsed] ++ optU 1 (c.phaseTimer.map (· / 1000)) ++
      [.u 1 c.suspensions, yes c.held.channel, yes c.held.localMode, yes c.held.turn, yes c.held.test, .s 2 l.tolerance,
        .s 2 l.windowBelow, .s 2 l.windowAbove, .s 2 l.minXpd, .s 2 l.maxDiff, .u 4 l.errored, .u 4 l.severe,
        .u 4 l.outage, .s 2 l.minFade, .u 4 l.maxBelow, .u 2 l.maxEvents] ++ figuresLayout c.acc x
  [.u 1 (PlanState.num p.state), .u 1 p.length] ++ optU 1 p.position ++ optU 1 (p.halt.map HaltReason.num) ++
    [yes p.stepMode, yes p.pauseReq] ++ optGroup 32 (p.susp.map suspensionLayout) ++ optGroup 10 (p.pauseRec.map pause) ++
    optGroup 47 (s.current.bind fun x => p.ctx.map (step x))

/-- A position in READ_STEPS (R120, R123): an entry with the limit members of every kind (log 84) and on-fail's count byte
(log 71), or the zeros of an empty position (log 25). -/
def positionLayout (x : Option Step) : List Field :=
  let signed (n : Option Nat) : List Field := optS 2 (n.map Int.ofNat)
  let entry (x : Step) : List Field :=
    let l := x.limits
    let source (q : Quantity) : Nat := match q with
      | .rawCode b | .level b | .smoothed b _ | .deviation b | .fadeMargin b | .farSmoothed b => Branch.num b
      | .errInterval p => Pol.num p
      | .xpd _ | .divDiff _ => 0
    let repeats : Nat := match x.onFail with
      | .repeatStep n => n
      | _ => 0
    [.u 1 (StepKind.num x.kind)] ++
      (if x.branches = [] then [.u 1 0, .u 1 0]
        else [.u 1 1, .u 1 x.branches.length] ++ x.branches.map fun b => .u 1 (Branch.num b)) ++
      optU 1 (x.pols.map Pols.num) ++ optU 4 x.duration ++ optU 1 (x.farMode.map RequestMode.num) ++
      optU 1 (x.locMode.map RequestMode.num) ++ signed l.tolerance ++ signed l.windowBelow ++ signed l.windowAbove ++
      signed l.minXpd ++ signed l.maxDiff ++ optU 4 l.errored ++ optU 4 l.severe ++ optU 4 l.outage ++ signed l.minFade ++
      optU 4 l.maxBelow ++ optU 2 l.maxEvents ++
      optGroup 6 (x.channel.map fun k =>
        [.u 1 k.channel.val, .u 1 k.quantity.num, .u 1 (source k.quantity), .u 1 (Scale.num k.quantity.scale),
          .u 2 k.interval]) ++
      [.u 1 (OnFail.num x.onFail), .u 1 repeats, .u 2 x.label] ++ optU 1 (x.wait.map WaitCond.num)
  optGroup 68 (x.map entry)

/-- An entry of the record as R185 lays it out, with its items. -/
def entryLayout (e : Entry) : List Field :=
  let place (i : Item) : Nat := match i.place with
    | .branch b => Branch.num b
    | .pol .h => 4
    | .pol .v => 5
    | .nowhere => 255
  let item (i : Item) : List Field :=
    [.u 1 (ItemCode.num i.code), .u 1 (place i), .s 4 i.value, .u 1 (Scale.num i.scale),
      .u 1 (i.atLeast.toNat + 2 * i.nominal.toNat + 4 * i.falsePeak.toNat + 8 * i.uncal.toNat)]
  let step (of : StepTag → Nat) (other : Nat) : Nat := (e.step.map of).getD other
  [.u 2 e.seq, .u 1 (EntryKind.code e.kind + 1), .u 1 (step StepTag.index 255), .u 2 (step StepTag.label 0),
      .u 1 (step StepTag.attempt 0), .u 1 ((e.verdict.map fun v => Verdict.code v + 1).getD 0),
      .u 1 ((e.reason.map fun r => Reason.code r + 1).getD 0), .u 4 e.startTime.value, .u 4 e.endTime.value,
      .u 1 (e.startTime.unset.toNat + 2 * e.endTime.unset.toNat), .u 1 e.suspensions, .u 1 e.superseded.toNat,
      .u 2 (e.ref.getD 0), .u 1 e.items.length] ++ e.items.flatMap item

/-- RECORD_STATUS (R172). -/
def recordLayout (s : State) : List Field :=
  let a := s.acr
  let check (x : Option Check) : List Field := optU 2 (x.map BitVec.toNat)
  let tag : Option StepTag := a.held.bind Entry.step
  [.u 1 (RecordState.num a.state), .u 1 a.entries.length, .u 4 a.next] ++ check a.localDigest ++ check a.peerDigest ++
    check a.echo ++ [yes a.held.isSome] ++ optU 1 (tag.map StepTag.index) ++ optU 1 (tag.map StepTag.attempt) ++
    optU 1 ((a.held.bind Entry.verdict).map Verdict.code) ++
    .u 1 s.ple.length :: (List.range s.ple.length).flatMap fun i => optU 1 ((a.governing i).map Verdict.code)

/-- PROFILE_STATUS (R196). An epoch that is UNSET is log 92's. -/
def profileLayout (s : State) : List Field :=
  let p := s.pfl
  let v := p.active
  let straps := p.straps
  profileTold p ++ [.u 1 straps.endSel.toNat, .u 1 straps.iptMode.toNat, .u 1 straps.iptAddr.toNat] ++
    optU 4 (p.epoch.map BitVec.toNat) ++ [.u 4 s.clock.sec, .u 4 s.recTime.value, yes v.link.isSome,
      yes (v.branch.mh.isSome || v.branch.mv.isSome || v.branch.dh.isSome || v.branch.dv.isSome), yes v.windows.isSome,
      yes v.timing.isSome, yes v.test.isSome]

/-- R172, R123: as many of the members, from the first on, as fit in the room. -/
def cutTo (room : Nat) (xs ys : List (List Field)) : Prop :=
  ∃ n, ys = xs.take n ∧ n ≤ xs.length ∧ payloadSize ys.flatten ≤ room ∧
    (n < xs.length → room < payloadSize (xs.take (n + 1)).flatten)

/-- R17, R35, R40, R63, R82, R95, R116, R123, R143, R172, R178, R180 and R196: the requests that only read answer with what
they read, field by field, and change nothing but the port. Where a rule lays out no bytes the layout is the model's, as
the definitions above name it (logs 14, 25, 49, 50, 53, 54, 56, 58, 61, 63, 66, 67, 69 to 71, 77, 82 to 84, 89 and 92). -/
def Obligations.StatusRequestsComplete : Prop :=
  encodings ∧ numbers ∧ (∀ r : SuspRec, r.fields = suspensionLayout r) ∧
  (∀ e : Entry, e.fields = entryLayout e) ∧
  numberedFrom 1 ItemCode.num
    [.deviation, .smoothed, .xpdH, .xpdV, .divDiffH, .divDiffV, .heldPeak, .meanLevel, .minLevel, .maxLevel, .divAbsH,
      .divAbsV, .secondsCounted, .secondsBelow, .fadeEvents, .errored, .severe, .outage, .elapsed, .wakeCount,
      .waivedSequence, .profileCrc, .digestLocal, .digestPeer, .openSteps, .firstOpen] ∧
  ∀ (s : State) (f : ReqFrame), s.Serves f →
    let tells (i : Instr) (code : Nat) (fs : List Field) : Prop :=
      Completes (exec i s) fun t => s.Answers t f.port code { payload := fs }
    let refuses (i : Instr) (code : Nat) (st : Status) : Prop :=
      Completes (exec i s) fun t => s.Answers t f.port code { status := st }
    let r := s.port f.port
    tells (.branchStatus f) 0x01 (branchLayout s) ∧ tells (.pointingStatus f) 0x03 (pointingLayout s) ∧
      tells (.testStatus f) 0x06 (testLayout s) ∧ tells (.txStatus f) 0x07 (txLayout s) ∧
      tells (.peerStatus f) 0x08 (peerLayout s) ∧ tells (.planStatus f) 0x0A (planLayout s) ∧
      tells (.recordStatus f) 0x0B (recordLayout s) ∧ tells (.profileStatus f) 0x0E (profileLayout s) ∧
      tells (.portStatus f) 0x0D
        [.u 2 r.mask.toNat, .u 1 r.queue.length, yes r.overflow, .u 1 (if s.pif.present then 0 else 1), .u 1 s.iptMode] ∧
      (∀ quantity branch scale,
        (Quantity.ofArgs quantity branch scale = none → refuses (.readValue f quantity branch scale) 0x02 .badArgument) ∧
        ∀ q, Quantity.ofArgs quantity branch scale = some q →
          (s.readable q = false → refuses (.readValue f quantity branch scale) 0x02 .badArgument) ∧
          (s.readable q = true → s.figure q = none → refuses (.readValue f quantity branch scale) 0x02 .wrongState) ∧
          ∀ x, s.readable q = true → s.figure q = some x →
            tells (.readValue f quantity branch scale) 0x02 (figureLayout q x)) ∧
      (∀ n, 8 ≤ n → refuses (.channelStatus f n) 0x04 .badArgument) ∧
      (∀ c : Fin 8, tells (.channelStatus f c.val) 0x04
        (channelLayout (s.channel c) ++ [.u 2 (largestRun (s.chu.regions none))])) ∧
      (∀ start count, 31 < start → refuses (.readSteps f start count) 0x09 .badArgument) ∧
      (∀ start count, start ≤ 31 → ∃ ys,
        cutTo (Port.limit f.port - 2) (((s.ple.table.drop start).take count).map positionLayout) ys ∧
          tells (.readSteps f start count) 0x09 (listOf ys ++ [.u 1 s.ple.length])) ∧
      (∀ count, refuses (.readEntries f 0 count) 0x0C .badArgument) ∧
      ∀ first count, 0 < first →
        let es := s.acr.entries.filter fun e => decide (first ≤ e.seq)
        (es = [] → refuses (.readEntries f first count) 0x0C .empty) ∧
        (es ≠ [] → ∃ ys, cutTo (Port.limit f.port - 1) ((es.take count).map entryLayout) ys ∧
          tells (.readEntries f first count) 0x0C (listOf ys))

/-- R15, R17, R24, R33 to R35, R44 and R45: when each figure is present, and what it is; and what a channel stores of it: an
XPD's AT_LEAST as BELOW_RANGE, the far end's smoothed levels as the last taken frame carries them while PAIRED, and nothing
for ERR_INTERVAL at a timer's expiry. -/
def Obligations.FigureRule : Prop :=
  ∀ s : State,
    (∀ p, s.figure (.xpd p) =
      match s.seed (Pol.main p), s.seed (Pol.main (Pol.other p)), s.pcu.last with
      | some w, some u, some f =>
        if s.pcu.peer = .paired ∧ f.settle = .settled ∧ f.state p = .cw ∧ f.state (Pol.other p) = .off ∧
            w.flags.belowRange = false then
          some { value := w.smoothed - u.smoothed, atLeast := u.flags.belowRange,
                 flags := { (w.flags.union u.flags) with belowRange := false }, time := laterTime s.clock.ms w.time u.time }
        else none
      | _, _, _ => none) ∧
    (∀ p, s.figure (.divDiff p) =
      match s.seed (Pol.main p), s.seed (Pol.div p) with
      | some m, some d =>
        some { value := m.smoothed - d.smoothed, flags := m.flags.union d.flags, time := laterTime s.clock.ms m.time d.time }
      | _, _ => none) ∧
    (∀ b, s.figure (.fadeMargin b) =
      match s.seed b, (s.pfl.branch b).threshold with
      | some x, some n => some { value := x.smoothed - n, flags := x.flags, time := x.time }
      | _, _ => none) ∧
    (∀ b x, s.seed b = some x →
      s.figure (.rawCode b) = some { value := x.code, flags := x.flags, time := x.time } ∧
        s.figure (.level b) = some { value := x.level, flags := x.flags, time := x.time } ∧
        s.figure (.smoothed b false) = some { value := coarse x.acc, flags := x.flags, time := x.time } ∧
        s.figure (.smoothed b true) = some { value := fine x.acc, flags := x.flags, time := x.time }) ∧
    (∀ b, s.seed b = none → s.figure (.rawCode b) = none ∧ s.figure (.level b) = none ∧
      s.figure (.smoothed b false) = none ∧ s.figure (.smoothed b true) = none) ∧
    (∀ b, s.figure (.deviation b) =
      match s.seed b, (s.point b).dev with
      | some x, some d =>
        some { value := d, flags := x.flags, time := x.time,
               nominal := match (s.point b).pred with
                 | .level _ n => n
                 | .absent _ => false }
      | _, _ => none) ∧
    (∀ b, s.figure (.farSmoothed b) = none) ∧ (∀ p, s.figure (.errInterval p) = none ∧ s.sampleOf (.errInterval p) = none) ∧
    (∀ b, s.sampleOf (.farSmoothed b) =
      if s.pcu.peer = .paired then
        (s.pcu.last.bind fun f => f.levels.get b).map fun x => { value := x.1, flags := x.2 }
      else none) ∧
    (∀ p, s.sampleOf (.xpd p) = (s.figure (.xpd p)).map fun f =>
      { value := f.value, flags := { f.flags with belowRange := f.atLeast } }) ∧
    ∀ q, (∀ b, q ≠ .farSmoothed b) → (∀ p, q ≠ .errInterval p ∧ q ≠ .xpd p) →
      s.sampleOf q = (s.figure q).map fun f => { value := f.value, flags := f.flags }

/-! ## Requests of the receivers, channels and tests -/

/-- R3, R4, R31, R36, R54 and R178. Peaks are emptied and the pointing branch is chosen among the fitted branches, the new
one driving the outputs at once. A branch is switched; going OFF it is lost to its pointing record, its channels and the
outgoing frame, the plan engine hears of the class change with both classes and then of the loss, and only the pointing
branch's switching reaches the outputs, whose tone without a deviation has a free frequency (DESIGN CHOICE, log 23). The
order of the two reports is the model's (DESIGN CHOICE, log 79), and so are ALL as branch 4 and the numbers OFF 0 and ACTIVE
1 (DEDUCED, log 14). -/
def Obligations.BranchRequestsComplete : Prop :=
  (∀ (s : State) (f : ReqFrame), s.Admits f →
    (∀ n, n ≠ 4 → s.fittedBranch n = none → Completes (exec (.resetPeak f n) s) fun t =>
      s.Answers t f.port 0x0F { status := .badArgument }) ∧
    (∀ n b, s.fittedBranch n = some b → Completes (exec (.resetPeak f n) s) fun t =>
      (s.setPoint b { s.point b with peak := none }).Answers t f.port 0x0F {}) ∧
    (Completes (exec (.resetPeak f 4) s) fun t =>
      (s.setPtu { s.ptu with recs := t.ptu.recs }).Answers t f.port 0x0F {} ∧
        ∀ b, t.point b = if (s.branch b).fitted then { s.point b with peak := none } else s.point b) ∧
    (∀ n, s.fittedBranch n = none → Completes (exec (.setPointing f n) s) fun t =>
      s.Answers t f.port 0x10 { status := .badArgument }) ∧
    ∀ n b, s.fittedBranch n = some b →
      (b = s.ptu.pointing → Completes (exec (.setPointing f n) s) fun t => s.Answers t f.port 0x10 {}) ∧
      (b ≠ s.ptu.pointing → Completes (exec (.setPointing f n) s) fun t =>
        ((s.setPtu t.ptu).setDraws t.draws).Answers t f.port 0x10 {} ∧
          t.ptu.pointing = b ∧ t.ptu.recs = s.ptu.recs ∧ t.ptu.far = s.ptu.far ∧ s.Drives t 0 none)) ∧
  ∀ (s : State) (f : ReqFrame), s.ServesUnit f →
    (∀ n st, s.fittedBranch n = none ∨ 2 ≤ st → Reacts (exec (.setBranch f n st) s) fun u =>
      s.Answers u .unit 0x31 { status := .badArgument }) ∧
    ∀ n b, s.fittedBranch n = some b →
      ((s.branch b).active = false → Reacts (exec (.setBranch f n 0) s) fun u =>
        s.Answers u .unit 0x31 { payload := [.u 1 0] }) ∧
      ((s.branch b).active = true → Reacts (exec (.setBranch f n 1) s) fun u =>
        s.Answers u .unit 0x31 { payload := [.u 1 1] }) ∧
      ((s.branch b).active = false → Reacts (exec (.setBranch f n 1) s) fun u =>
        (((s.setBranchRec b { s.branch b with active := true, seed := none }).setPtu u.ptu).setDraws u.draws).Answers u .unit
            0x31 { payload := [.u 1 1] } ∧
          (b ≠ s.ptu.pointing → u.ptu = s.ptu ∧ u.draws = s.draws) ∧
          (b = s.ptu.pointing → u.ptu.recs = s.ptu.recs ∧ u.ptu.far = s.ptu.far ∧ u.ptu.pointing = b ∧
            s.Drives u s.ptu.cadencePhase s.ptu.burst)) ∧
      ((s.branch b).active = true → Reacts (exec (.setBranch f n 0) s) fun u =>
        (((((s.setBranchRec b { s.branch b with active := false, seed := none }).setPtu u.ptu).setChu u.chu).setPcu
            { s.pcu with out := s.pcu.out.set b none }).setReports u.reports |>.setDraws u.draws).Replies u .unit 0x31
            { payload := [.u 1 0] } ∧
          u.reports = s.reports ++ (if (s.point b).cls = .none then [.branchOff b]
            else [.classChange b (s.point b).cls .none, .branchOff b]) ∧
          u.point b = .powerOn ∧ (∀ d, d ≠ b → u.point d = s.point d) ∧
          u.ptu.far = s.ptu.far ∧ u.ptu.pointing = s.ptu.pointing ∧
          (b ≠ s.ptu.pointing → u.ptu = { s.ptu with recs := u.ptu.recs } ∧ u.draws = s.draws) ∧
          (b = s.ptu.pointing →
            u.ptu.voltage = 0 ∧ u.ptu.cadence = .silent ∧ s.Drives u s.ptu.cadencePhase s.ptu.burst) ∧
          u.chu.streams = s.chu.streams ∧
          (∀ c, s.channel c = none → u.channel c = none) ∧
          ∀ c r, s.channel c = some r →
            (b ∈ r.quantity.formedFrom → r.state = .running →
              let q : ChanRec := { r with state := .halted .sourceLost, timer := none }
              u.channel c = some q ∧
                u.Told .channelState (channelTold c (some r.owner) (some .running) (some q) (some .sourceLost))) ∧
            (b ∉ r.quantity.formedFrom ∨ r.state ≠ .running → u.channel c = some r))

/-- R43: the ports and the owners whose channels a request of the port is refused with OWNED; the requests
`planToo`, JOIN and LEAVE, may name a channel of the plan. -/
def ownersTable : Prop :=
  (∀ p planToo, ownedFrom p .plan planToo = !planToo) ∧
    ∀ planToo, ownedFrom .installer .unit planToo = true ∧ ownedFrom .installer .installer planToo = false ∧
      ownedFrom .unit .unit planToo = false ∧ ownedFrom .unit .installer planToo = false

/-- R44: the branches of this end from which a quantity's source is formed, and the check of a source against the active
profile. That FAR_SMOOTHED's branch is the far end's alone is log 55's (DEDUCED). -/
def sourcesTable : Prop :=
  (∀ q : Quantity, q.formedFrom = match q with
    | .rawCode b | .level b | .smoothed b _ | .deviation b | .fadeMargin b => [b]
    | .xpd _ => [.mh, .mv]
    | .divDiff .h => [.mh, .dh]
    | .divDiff .v => [.mv, .dv]
    | .farSmoothed _ | .errInterval _ => []) ∧
  ∀ (s : State) (q : Quantity), s.sourceFits q = true ↔ ∀ b ∈ q.formedFrom, (s.branch b).fitted = true

/-- R43, R44, R46, R47 and R178: a FREE channel is bound with every argument of its request and the lowest region that
fits, its CHANNEL_STATE is posted (R64), and what refuses a BIND. A hold byte of 2 or more (DEDUCED, logs 14 and 36) and a
scale outside its set, 1 to 2 for SMOOTHED and 1 to 5 for the other quantities (DEDUCED, log 57), are refused before every
check of R47. The budget that is UNBOUNDED is log 40's (DEDUCED), and a refusal with NO_SPACE carries CLAMPED where the
interval was clamped (DEDUCED, log 65). -/
def Obligations.BindCompletes : Prop :=
  (∀ q : Quantity, Quantity.ofArgs q.num q.source (Scale.num q.scale) = some q) ∧
  (∀ code source scale q, Quantity.ofArgs code source scale = some q →
    q.num = code ∧ 1 ≤ scale ∧ scale ≤ (if code = 2 then 2 else 5) ∧ (code = 2 → Scale.num q.scale = scale) ∧
      (code < 5 ∨ 8 < code → q.source = source)) ∧
  ownersTable ∧ sourcesTable ∧
  (∀ size count, pageShapeOk size count = true ↔
    (size = 8 ∨ size = 16 ∨ size = 32 ∨ size = 64) ∧ 1 ≤ count ∧ count ≤ 31) ∧
  ∀ (s : State) (f : ReqFrame) (a : BindArgs), s.Admits f →
    let refuses (st : Status) : Prop := Completes (exec (.bind f a) s) fun t => s.Answers t f.port 0x11 { status := st }
    let coded : Prop := a.hold < 2 ∧ 1 ≤ a.scale ∧ a.scale ≤ if a.quantity = 2 then 2 else 5
    (8 ≤ a.channel ∨ ¬coded → refuses .badArgument) ∧
    (coded → ∀ (c : Fin 8) r, c.val = a.channel → s.channel c = some r →
      (ownedFrom f.port r.owner false = true → refuses .owned) ∧
      (ownedFrom f.port r.owner false = false → refuses .wrongState)) ∧
    (coded → ∀ c : Fin 8, c.val = a.channel → s.channel c = none →
      (Quantity.ofArgs a.quantity a.source a.scale = none ∨ 2 ≤ a.policy ∨ pageShapeOk a.pageSize a.pageCount = false →
        refuses .badArgument) ∧
      ∀ q, Quantity.ofArgs a.quantity a.source a.scale = some q → a.policy < 2 →
        pageShapeOk a.pageSize a.pageCount = true →
        (s.sourceFits q = false → refuses .badArgument) ∧
        let interval := if q.isErrInterval then 1000 else max 1 (min 60000 a.interval)
        let clamped := !q.isErrInterval && interval != a.interval
        (s.sourceFits q = true → firstFit (s.chu.regions none) (a.pageCount * a.pageSize) = none →
          Completes (exec (.bind f a) s) fun t => s.Answers t f.port 0x11 { status := .noSpace, clamped := clamped }) ∧
        ∀ p, s.sourceFits q = true → firstFit (s.chu.regions none) (a.pageCount * a.pageSize) = some p →
          Completes (exec (.bind f a) s) fun t =>
            let budget := if a.budget < 16777215 then some a.budget else none
            let r : ChanRec :=
              { owner := Port.party f.port, state := .bound, quantity := q, interval := interval, budget := budget,
                remaining := budget, stored := 0, missed := 0, dropped := 0, gap := 0, pageSize := a.pageSize,
                pageCount := a.pageCount, policy := if a.policy = 0 then .lose else .overwrite, hold := a.hold == 0,
                first := p, pages := List.replicate a.pageCount .free, fill := none, timer := none, stream := none }
            (s.setChannel c (some r)).Replies t f.port 0x11
              { clamped := clamped, payload := [.u 2 p] } ∧
              t.Notified .channelState (channelTold c none none (some r) none))

/-- A request that names a channel of its own reaches the rule (R43). -/
abbrev reaches (s : State) (f : ReqFrame) (c : Fin 8) (r : ChanRec) (planToo : Bool) : Prop :=
  s.channel c = some r ∧ ownedFrom f.port r.owner planToo = false

/-- R43: what refuses a request that needs a bound channel, before its own rule is asked. -/
def checked (s : State) (f : ReqFrame) (mk : Nat → Instr) (code : Nat) (planToo : Bool) : Prop :=
  (∀ n, 8 ≤ n → Completes (exec (mk n) s) fun t => s.Answers t f.port code { status := .badArgument }) ∧
    ∀ c : Fin 8,
      (s.channel c = none → Completes (exec (mk c.val) s) fun t => s.Answers t f.port code { status := .wrongState }) ∧
      ∀ r, s.channel c = some r → ownedFrom f.port r.owner planToo = true →
        Completes (exec (mk c.val) s) fun t => s.Answers t f.port code { status := .owned }

/-- R43, R44, R49, R54 to R57 and R64: RUN, HALT, RESUME, FLUSH and UNBIND of a channel, in every state of the channel,
with the notice of each change of state; a request that leaves the state as it is posts none. -/
def Obligations.ChannelRequestsComplete : Prop :=
  ownersTable ∧ sourcesTable ∧ ∀ (s : State) (f : ReqFrame), s.Admits f →
    checked s f (.run f) 0x12 false ∧ checked s f (.halt f) 0x13 false ∧ checked s f (.resume f) 0x14 false ∧
    checked s f (.flush f) 0x15 false ∧ checked s f (.unbind f) 0x16 false ∧
    ∀ (c : Fin 8) (r : ChanRec), reaches s f c r false →
      let wrong (i : Instr) (code : Nat) : Prop :=
        Completes (exec i s) fun t => s.Answers t f.port code { status := .wrongState }
      let told (old : ChanState) (q : Option ChanRec) (cause : Option StateCause) : List Field :=
        channelTold c (some r.owner) (some old) q cause
      let leaves (i : Instr) (code : Nat) (q : Option ChanRec) (cause : Option StateCause) : Prop :=
        Completes (exec i s) fun t => (s.setChannel c q).Replies t f.port code {} ∧
          (q.map ChanRec.state ≠ some r.state → t.Notified .channelState (told r.state q cause)) ∧
          (q.map ChanRec.state = some r.state → t.Unposted s)
      let sources : Prop := ∀ b ∈ r.quantity.formedFrom, (s.branch b).active = true
      let timer : Timer := if r.quantity.isErrInterval then none else some r.interval
      let fresh : ChanRec := { r with remaining := r.budget, stored := 0, missed := 0, dropped := 0, gap := 0, fill := none }
      (r.state ≠ .bound ∨ ¬sources → wrong (.run f c.val) 0x12) ∧
      (r.state = .bound → sources → r.budget ≠ some 0 →
        leaves (.run f c.val) 0x12 (some { fresh with state := .running, timer := timer }) none) ∧
      (r.state = .bound → sources → r.budget = some 0 →
        let hdr : PageHeader := { seq := 0, time := s.clock.ms, gap := 0, short := true, endRun := true }
        let q : ChanRec := { fresh with state := .done, pages := r.pages.set 0 (.ready hdr []) }
        Completes (exec (.run f c.val) s) fun t => (s.setChannel c (some q)).Replies t f.port 0x12 {} ∧
          t.Told .channelState (told .bound (some { fresh with state := .running }) none) ∧
          t.Notified .channelState (told .running (some q) none)) ∧
      (r.state = .running →
        leaves (.halt f c.val) 0x13 (some { r with state := .halted .command, timer := none }) (some .command)) ∧
      (r.state ≠ .running → wrong (.halt f c.val) 0x13) ∧
      (∀ k, r.state = .halted k → sources →
        leaves (.resume f c.val) 0x14 (some { r with state := .running, timer := timer }) none) ∧
      ((∀ k, r.state ≠ .halted k) ∨ ¬sources → wrong (.resume f c.val) 0x14) ∧
      leaves (.flush f c.val) 0x15
        (some { fresh with state := .bound, timer := none, pages := List.replicate r.pageCount .free }) none ∧
      leaves (.unbind f c.val) 0x16 none (some .command)

/-- R58 to R62: the export streams are opened, closed, joined and left; a channel is in at most one of them. A segment
carries the chosen channel's oldest READY page, the first in ring order after the last one filled, which becomes FREE, and
a change of the channel's state posts its notice (R64); a stream that is not open or has no READY page is answered so. -/
def Obligations.StreamRequestsComplete : Prop :=
  (∀ (s : State) (f : ReqFrame), s.Admits f →
    (∀ quantum, Completes (exec (.openStream f quantum) s) fun t =>
      let asked := quantum.getD 2
      let n := max 1 (min 8 asked)
      let x : StreamRec := match s.stream f.port with
        | some x => { x with quantum := n }
        | none => { quantum := n, current := none, run := 0 }
      (s.setStream f.port (some x)).Answers t f.port 0x17 { clamped := n != asked }) ∧
    (s.stream f.port = none → Completes (exec (.closeStream f) s) fun t =>
      s.Answers t f.port 0x18 { status := .wrongState }) ∧
    ((s.stream f.port).isSome = true → Completes (exec (.closeStream f) s) fun t =>
      (s.setChu t.chu).Answers t f.port 0x18 {} ∧ t.stream f.port = none ∧
        (∀ p, p ≠ f.port → t.stream p = s.stream p) ∧
        ∀ c, t.channel c =
          (s.channel c).map fun r => { r with stream := if r.stream = some f.port then none else r.stream }) ∧
    checked s f (.join f) 0x19 true ∧ checked s f (.leave f) 0x1A true ∧
    ∀ (c : Fin 8) (r : ChanRec), reaches s f c r true →
      (s.stream f.port = none → Completes (exec (.join f c.val) s) fun t =>
        s.Answers t f.port 0x19 { status := .wrongState }) ∧
      ((s.stream f.port).isSome = true → Completes (exec (.join f c.val) s) fun t =>
        (s.setChannel c (some { r with stream := some f.port })).Answers t f.port 0x19 {}) ∧
      (r.stream = some f.port → Completes (exec (.leave f c.val) s) fun t =>
        (s.setChannel c (some { r with stream := none })).Answers t f.port 0x1A {}) ∧
      (r.stream ≠ some f.port → Completes (exec (.leave f c.val) s) fun t =>
        s.Answers t f.port 0x1A { status := .notFound })) ∧
  ∀ (s : State) (f : ReqFrame), s.Serves f →
    (s.stream f.port = none → Completes (exec (.nextSegment f) s) fun t =>
      s.Answers t f.port 0x05 { status := .wrongState }) ∧
    ∀ x, s.stream f.port = some x →
      (s.chooseChannel f.port x = none → Completes (exec (.nextSegment f) s) fun t =>
        s.Answers t f.port 0x05 { status := .empty }) ∧
      ∀ c y r k i hdr es, s.chooseChannel f.port x = some (c, y) → s.channel c = some r → pageOn r k i →
        r.pages[i]? = some (.ready hdr es) →
        (∀ n j h xs, n < k → pageOn r n j → r.pages[j]? ≠ some (.ready h xs)) →
        Completes (exec (.nextSegment f) s) fun t => ∃ q,
          ((s.setStream f.port (some y)).setChannel c (some q)).Replies t f.port 0x05
            { payload :=
                [.u 1 c.val, .u 1 (hdr.short.toNat + 2 * hdr.endRun.toNat), .u 4 hdr.seq, .u 4 hdr.time, .u 2 hdr.gap,
                  .u 1 es.length, .u 1 (Scale.num r.quantity.scale)] ++
                  es.flatMap fun e => [.s 2 e.value, .u 1 (128 + e.flags.byte)] } ∧
          let freed := r.pages.set i .free
          let last : Prop := r.state = .done ∧ r.hold = false ∧ ∀ p ∈ freed, p.isReady = false
          (¬last → q = { r with pages := freed } ∧ t.Unposted s) ∧
            (last → q = { r with state := .bound, pages := List.replicate r.pageCount .free } ∧
              t.Notified .channelState (channelTold c (some r.owner) (some .done) (some q) none))

/-- R76, R77 and R80: a test starts with its records cleared, stops with its runs resolved and TEST_DONE posted, and what
refuses either. That the discarded interval is told as zero is the model's (DESIGN CHOICE, log 59), and so is that a
polarization that is not tested starts with hunt-seen no (DEDUCED, log 75). -/
def Obligations.TestRequestsComplete : Prop :=
  ∀ (s : State) (f : ReqFrame), s.Admits f →
    let plan : Prop := s.etu.test.owner = some .plan
    let units : Prop := f.port = .installer ∧ s.etu.test.owner = some .unit
    let active : Prop := s.etu.test.state = .running ∨ s.etu.test.state = .paused
    (∀ pols d k,
      let refuses (st : Status) : Prop :=
        Completes (exec (.startTest f pols d k) s) fun t => s.Answers t f.port 0x1B { status := st }
      (plan ∨ (units ∧ active) → refuses .owned) ∧
      (¬plan → ¬units → active → refuses .wrongState) ∧
      (¬plan → ¬active → 3 ≤ pols → refuses .badArgument) ∧
      ∀ x, ¬plan → ¬active → Pols.ofNum pols = some x → Completes (exec (.startTest f pols d k) s) fun t =>
        let duration := max 1 (min 259200 d)
        let given := k.getD s.pfl.test.percent
        let severe := max 1 (min 100 given)
        let start (p : Pol) : CountRec :=
          { s.count p with
            current := .zero (Pols.has x p && (s.count p).sync == .hunt), outage := false, pend := [], totals := .zero }
        (s.setEtu
          { test := { state := .running, owner := some (Port.party f.port),
                      setup := some { pols := x, duration := duration, severe := severe },
                      completed := 0, cause := none, timer := some 1000 },
            counts := { h := start .h, v := start .v }, gens := s.etu.gens }).Answers t f.port 0x1B
          { clamped := duration != d || (k.isSome && severe != given) }) ∧
    let refuses (st : Status) : Prop :=
      Completes (exec (.stopTest f) s) fun t => s.Answers t f.port 0x1C { status := st }
    (plan ∨ units → refuses .owned) ∧
    (¬plan → ¬units → ¬active → refuses .wrongState) ∧
    (¬plan → ¬units → active → Completes (exec (.stopTest f) s) fun t =>
      (s.setEtu t.etu).Replies t f.port 0x1C {} ∧
        (∀ x, s.etu.test.setup = some x →
          t.Notified .testDone (testTold s.etu.test.owner x .command s.etu.test.completed t.count)) ∧
        t.etu.test = { s.etu.test with state := .stopped, timer := none, cause := some .command } ∧
        t.etu.gens = s.etu.gens ∧ (∀ p, s.etu.tested p = false → t.count p = s.count p) ∧
        ∀ p, s.etu.tested p = true → t.count p = (s.count p).ended)

/-! ## Requests of the transmitter and of the turn -/

/-- R85 and R86: the modes' states and numbers, which slot wins, the mask laid over its states, and the outputs that
follow. -/
def arbiterTable : Prop :=
  [RequestMode.traffic, .cwBoth, .cwH, .cwV, .pattern, .off].map RequestMode.pair =
      [(.traffic, .traffic), (.cw, .cw), (.cw, .off), (.off, .cw), (.pattern, .pattern), (.off, .off)] ∧
    [0, 1, 2, 3, 4, 5].map RequestMode.ofNum =
      [some .traffic, some .cwBoth, some .cwH, some .cwV, some .pattern, some .off] ∧
    (∀ x : Tma,
      let wins (w : Winner) (m : RequestMode) : Prop :=
        x.winner = w ∧ x.result = (if x.mute.h then .off else m.pair.1, if x.mute.v then .off else m.pair.2)
      (∀ m, x.peerSlot = some m → wins .peer m) ∧ (∀ m, x.peerSlot = none → x.planSlot = some m → wins .plan m) ∧
        (∀ m, x.peerSlot = none → x.planSlot = none → x.instSlot = some m → wins .installer m) ∧
        (x.peerSlot = none → x.planSlot = none → x.instSlot = none → wins .default .traffic)) ∧
    ∀ (h v : TxState) (power : Int),
      let d := outputsOf (h, v) power
      d.h = h ∧ d.v = v ∧ (h = .traffic ∨ v = .traffic → d.freeze = none) ∧
        (h ≠ .traffic → v ≠ .traffic → d.freeze = some power)

/-- R28, R85 to R87, R90, R92 and R93: the INSTALLER slot and the mask are arbitrated, for every combination of the slots
and the mask, and a fault is cleared by driving what stands; the stable counts return to 0 where a driven state changes.
That SET_MUTE's mask is a byte with H in bit 0 and V in bit 1, and that 4 and above are refused (R178), is the model's
reading (DEDUCED, log 14). -/
def Obligations.TransmitRequestsComplete : Prop :=
  arbiterTable ∧ ∀ (s : State) (f : ReqFrame),
    let comm := s.pfl.link.commPower
    let leaves (u : State) (x : Tma) (p : Port) (code : Nat) (r : Reply) : Prop :=
      u.tma = x ∧ (((s.setTma x).setPtu u.ptu).setReports u.reports).Replies u p code r ∧
        u.ptu = { s.ptu with recs := u.ptu.recs } ∧
        ∀ b, u.point b =
          if x.driven.h = s.tma.driven.h ∧ x.driven.v = s.tma.driven.v then s.point b else { s.point b with stable := 0 }
    let slot (u : State) : Reply :=
      { payload := slotFields u.tma.instSlot ++ [.u 1 (Winner.num u.tma.winner)] ++ u.tma.driven.fields ++
          [.u 1 (SettleState.num u.tma.settle)] }
    (s.Admits f →
      (∀ n, 6 ≤ n → Reacts (exec (.txRequest f n) s) fun u => s.Answers u f.port 0x1D { status := .badArgument }) ∧
      (∀ n m, RequestMode.ofNum n = some m → Reacts (exec (.txRequest f n) s) fun u =>
        leaves u (Tma.arbitrated { s.tma with instSlot := some m } comm) f.port 0x1D (slot u)) ∧
      Reacts (exec (.txRelease f) s) fun u =>
        leaves u (Tma.arbitrated { s.tma with instSlot := none } comm) f.port 0x1E (slot u)) ∧
    (s.ServesUnit f →
      (∀ mask : BitVec 8, 4 ≤ mask.toNat → Reacts (exec (.setMute f mask) s) fun u =>
        s.Answers u .unit 0x33 { status := .badArgument }) ∧
      (∀ mask : BitVec 8, mask.toNat < 4 → Reacts (exec (.setMute f mask) s) fun u =>
        let asked : PerPol Bool := { h := mask.getLsbD 0, v := mask.getLsbD 1 }
        let r : Reply := { payload := .u 1 (mask.toNat : Nat) :: u.tma.driven.fields }
        (asked = s.tma.mute → s.Answers u .unit 0x33 r) ∧
          (asked ≠ s.tma.mute → .maskChange ∈ u.reports ∧
            leaves u (Tma.arbitrated { s.tma with mute := asked } comm) .unit 0x33 r)) ∧
      (s.tma.settle ≠ .fault → Reacts (exec (.clearTxFault f) s) fun u =>
        s.Answers u .unit 0x35 { status := .wrongState }) ∧
      (s.tma.settle = .fault → Reacts (exec (.clearTxFault f) s) fun u =>
        leaves u
          { s.tma with driven := outputsOf s.tma.result comm, change := (s.tma.change + 1) % 256, settle := .settling,
                       timer := some 2000 } .unit 0x35 {}))

/-- R108, R110 and R111: a turn is asked for and released, in every state of the request side. -/
def Obligations.TurnRequestsComplete : Prop :=
  ∀ (s : State) (f : ReqFrame), s.Admits f →
    let me := Port.party f.port
    (∀ n, 6 ≤ n → Reacts (exec (.turnRequest f n) s) fun u => s.Answers u f.port 0x1F { status := .badArgument }) ∧
    (∀ n m, RequestMode.ofNum n = some m →
      let refuses (st : Status) : Prop :=
        Reacts (exec (.turnRequest f n) s) fun u => s.Answers u f.port 0x1F { status := st }
      let leaves (side : RequestSide) : Prop :=
        Reacts (exec (.turnRequest f n) s) fun u =>
          ((s.setPcu { s.pcu with req := side }).setReports u.reports).Replies u f.port 0x1F
            { payload := [.u 1 (TurnState.num u.pcu.turn)] }
      (∀ w, s.pcu.req.requester = some w → w ≠ me → refuses .owned) ∧
      (s.pcu.req = .none → s.pcu.peer ≠ .paired → refuses .wrongState) ∧
      (s.pcu.req = .none → s.pcu.peer = .paired → s.pcu.grant = none → leaves (.requesting me m)) ∧
      (s.pcu.req = .none → s.pcu.peer = .paired → s.pcu.grant.isSome = true → leaves (.deferred me m)) ∧
      (∀ old, s.pcu.req = .requesting me old → leaves (.requesting me m)) ∧
      (∀ old, s.pcu.req = .deferred me old → leaves (.deferred me m)) ∧
      (∀ old x a, s.pcu.req = .holding me old false x a → leaves (.holding me m false x a)) ∧
      ∀ old x a, s.pcu.req = .holding me old true x a → refuses .wrongState) ∧
    let refuses (st : Status) : Prop :=
      Reacts (exec (.turnRelease f) s) fun u => s.Answers u f.port 0x20 { status := st }
    (s.pcu.req = .none → refuses .wrongState) ∧
    ∀ w, s.pcu.req.requester = some w →
      (w = .plan ∨ (w = .unit ∧ f.port = .installer) → refuses .owned) ∧
      (w ≠ .plan → ¬(w = .unit ∧ f.port = .installer) → Reacts (exec (.turnRelease f) s) fun u =>
        let p : Pcu := { s.pcu with req := s.pcu.releasedSide }
        let held : Prop := p.grant.isSome = true ∨ ∃ w m x a, p.req = .holding w m true x a
        ((s.setPcu u.pcu).setReports u.reports).Replies u f.port 0x20 {} ∧
          (held → u.pcu = p) ∧ (¬held → u.pcu = { p with silent := false, hold := none }))

/-! ## Requests of the plan -/

/-- The branches that an entry names, in branch order without duplicates (R120). -/
def branchesNamed (r : RawStep) : List Branch :=
  [Branch.mh, .mv, .dh, .dv].filter fun b => decide (Branch.num b ∈ r.branches.getD [])

/-- R120 and R121, column by column: the fields that an entry of a kind has and has not, and the values that each may name
(R122, check 4). An entry has every limit member, and one of another kind must be absent (DESIGN CHOICE, log 84). -/
def entryFits (s : State) (r : RawStep) (k : StepKind) : Prop :=
  let l := r.limits
  let named : Prop := ∃ ns, r.branches = some ns ∧ ∀ n ∈ ns, n ≤ 3
  let n := (branchesNamed r).length
  let has (b d : Branch) : Prop := b ∈ branchesNamed r ∧ d ∈ branchesNamed r
  let codes (x : Option Nat) (ok : Nat → Prop) : Prop := ∀ m, x = some m → ok m
  (match k with
    | .align | .soak => named ∧ 1 ≤ n ∧ n ≤ 2
    | .level => named ∧ 1 ≤ n
    | .diversity => named ∧ (has .mh .dh ∨ has .mv .dv)
    | .xpd | .errtest | .wait | .handover => r.branches = none) ∧
  (∀ b ∈ branchesNamed r, (s.branch b).fitted = true) ∧
  (match k with
    | .xpd | .errtest => ∃ m, r.pol = some m ∧ m ≤ 2
    | _ => r.pol = none) ∧
  (k ≠ .align → r.duration.isSome = true) ∧
  (match k with
    | .align | .level | .diversity => codes r.farMode (· ≤ 5)
    | .errtest => codes r.farMode (· = 4)
    | .xpd | .soak | .wait | .handover => r.farMode = none) ∧
  (match k with
    | .align | .level | .xpd | .diversity => codes r.locMode (· ≤ 5)
    | .errtest => codes r.locMode (· = 4)
    | .soak => codes r.locMode (· = 0)
    | .wait | .handover => r.locMode = none) ∧
  (k ≠ .align → l.tolerance = none) ∧ (k ≠ .level → l.windowBelow = none ∧ l.windowAbove = none) ∧
  (k ≠ .xpd → l.minXpd = none) ∧ (k ≠ .diversity → l.maxDiff = none) ∧
  (k ≠ .errtest → l.errored = none ∧ l.severe = none ∧ l.outage = none) ∧
  (k ≠ .soak → l.minFade = none ∧ l.maxBelow = none ∧ l.maxEvents = none) ∧
  (∀ c, r.channel = some c → k ≠ .wait ∧ k ≠ .handover ∧ c.channel ≤ 7 ∧
    ∃ q, Quantity.ofArgs c.quantity c.source c.scale = some q ∧ ∀ b ∈ q.formedFrom, (s.branch b).fitted = true) ∧
  (k = .wait → ∃ m, r.wait = some m ∧ m ≤ 2) ∧ (k ≠ .wait → r.wait = none) ∧
  (r.onFail = 0 ∨ r.onFail = 1 ∨ (r.onFail = 2 ∧ 1 ≤ r.repeats ∧ r.repeats ≤ 7))

/-- The step as which an entry of a kind is held, every value clamped into its range, and whether one was (R120 to R122).
The interval of an ERR_INTERVAL channel is disregarded (DESIGN CHOICE, log 85). -/
def entryLoads (r : RawStep) (k : StepKind) (x : Step) (clamped : Bool) : Prop :=
  let l := r.limits
  let modes : List RequestMode := [.traffic, .cwBoth, .cwH, .cwV, .pattern, .off]
  let lowest : Int := if k = .soak then 60 else 1
  let longest : Int := match k with
    | .align | .wait | .handover => 86400
    | .level | .xpd | .diversity => 600
    | .errtest | .soak => 259200
  let duration : Option Int := r.duration.map Int.ofNat
  let held (lo hi : Int) (v : Option Int) : Option Nat := v.map fun n => (max lo (min hi n)).toNat
  let moved (lo hi : Int) (v : Option Int) : Prop := ∃ n, v = some n ∧ (n < lo ∨ hi < n)
  x.kind = k ∧ x.branches = branchesNamed r ∧ x.pols = (r.pol.bind fun n => [Pols.h, .v, .both][n]?) ∧
    x.duration = held lowest longest duration ∧ x.farMode = (r.farMode.bind fun n => modes[n]?) ∧
    x.locMode = (r.locMode.bind fun n => modes[n]?) ∧
    x.limits =
      { tolerance := held 1 30 l.tolerance, windowBelow := held 0 300 l.windowBelow,
        windowAbove := held 0 300 l.windowAbove, minXpd := held 0 600 l.minXpd, maxDiff := held 0 600 l.maxDiff,
        errored := held 0 259200 l.errored, severe := held 0 259200 l.severe, outage := held 0 259200 l.outage,
        minFade := held 0 600 l.minFade, maxBelow := held 0 259200 l.maxBelow, maxEvents := held 0 65535 l.maxEvents } ∧
    (r.channel = none → x.channel = none) ∧
    (∀ c, r.channel = some c → ∃ f, x.channel = some f ∧ f.channel.val = c.channel ∧
      Quantity.ofArgs c.quantity c.source c.scale = some f.quantity ∧
      f.interval = if c.quantity = 10 then 1000 else max 1 (min 60000 c.interval)) ∧
    x.onFail = (if r.onFail = 0 then .stop else if r.onFail = 1 then .continueOn else .repeatStep r.repeats) ∧
    x.label = r.label ∧ x.wait = (r.wait.bind fun n => [WaitCond.peerPaired, .turnFree, .timeOnly][n]?) ∧
    (clamped = true ↔
      moved lowest longest duration ∨ moved 1 30 l.tolerance ∨ moved 0 300 l.windowBelow ∨ moved 0 300 l.windowAbove ∨
        moved 0 600 l.minXpd ∨ moved 0 600 l.maxDiff ∨ moved 0 259200 l.errored ∨ moved 0 259200 l.severe ∨
        moved 0 259200 l.outage ∨ moved 0 600 l.minFade ∨ moved 0 259200 l.maxBelow ∨ moved 0 65535 l.maxEvents ∨
        ∃ c, r.channel = some c ∧ c.quantity ≠ 10 ∧ (c.interval < 1 ∨ 60000 < c.interval))

/-- R120 to R122: what becomes of one entry of a LOAD_STEPS. -/
def entryRule (s : State) (r : RawStep) : Prop :=
  let kinds : List StepKind := [.align, .level, .xpd, .diversity, .errtest, .soak, .wait, .handover]
  (∀ k, kinds[r.kind]? = some k → entryFits s r k → ∃ x clamped, s.stepOf r = some (x, clamped) ∧ entryLoads r k x clamped) ∧
    ((∀ k, kinds[r.kind]? = some k → ¬entryFits s r k) → s.stepOf r = none)

/-- R120 to R123, R143 and R155: the plan table is written, its entries checked and clamped kind by kind, and its length
set while the plan may be edited, each change of the plan state with its notice; a pause and step mode are asked for. Step
mode's numbers, on 0 and off 1, and the refusal of others (R178) are log 14's (DEDUCED), and the places of the refused
entry's index and of the list of clamped ones log 25's (DEDUCED). That an entry has the limit members of every kind (log
84), that an ERR_INTERVAL channel's interval is disregarded (log 85), and on-fail's count byte (log 71) are DESIGN CHOICE.
-/
def Obligations.PlanTableRequestsComplete : Prop :=
  (∀ (s : State) (r : RawStep), entryRule s r) ∧ ∀ (s : State) (f : ReqFrame), s.Admits f →
    let editable : Prop := s.ple.state = .idle ∨ s.ple.state = .loaded ∨ s.ple.state = .complete
    (∀ start entries, entries ≠ [] →
      let answers (u : State) (r : Reply) : Prop :=
        Completes (exec (.loadSteps f start entries) s) fun t => u.Answers t f.port 0x21 r
      (¬editable → answers s { status := .wrongState }) ∧
      (editable → 31 < start ∨ 32 < start + entries.length → answers s { status := .badArgument }) ∧
      (editable → start ≤ 31 → start + entries.length ≤ 32 →
        (∀ before r later, entries = before ++ r :: later → (∀ y ∈ before, (s.stepOf y).isSome = true) →
          s.stepOf r = none → answers s { status := .badArgument, payload := [.u 1 (start + before.length)] }) ∧
        ∀ xs : List (Step × Bool), entries.map s.stepOf = xs.map some → Completes (exec (.loadSteps f start entries) s) fun t =>
          let ended : Prop := s.ple.state = .complete
          let places := (List.range xs.length).filter fun k => (xs[k]?.map Prod.snd) = some true
          let r : Reply := if places = [] then {} else
            { clamped := true, payload := .u 1 places.length :: places.map fun k => .u 1 (start + k) }
          (s.setPle { s.ple with
              table := s.ple.table.take start ++ xs.map (fun x => some x.1) ++ s.ple.table.drop (start + xs.length),
              state := if ended then .loaded else s.ple.state }).Replies t f.port 0x21 r ∧
            (ended → s.TellsPlan t .loaded .load) ∧ (¬ended → t.Unposted s))) ∧
    (∀ n,
      let refuses (st : Status) : Prop :=
        Completes (exec (.setPlanLength f n) s) fun t => s.Answers t f.port 0x22 { status := st }
      (¬editable → refuses .wrongState) ∧
      (editable → (32 < n ∨ ∃ i, i < n ∧ s.ple.table[i]? = some none) → refuses .badArgument) ∧
      (editable → n ≤ 32 → (∀ i, i < n → s.ple.table[i]? ≠ some none) →
        Completes (exec (.setPlanLength f n) s) fun t =>
          let rest : PlanState := if n = 0 then .idle else .loaded
          (s.setPle { s.ple with length := n, state := rest }).Replies t f.port 0x22 {} ∧
            (s.ple.state ≠ rest → s.TellsPlan t rest .load) ∧ (s.ple.state = rest → t.Unposted s))) ∧
    (∀ n, 2 ≤ n → Completes (exec (.setStepMode f n) s) fun t => s.Answers t f.port 0x2D { status := .badArgument }) ∧
    (Completes (exec (.setStepMode f 0) s) fun t => (s.setPle { s.ple with stepMode := true }).Answers t f.port 0x2D {}) ∧
    (Completes (exec (.setStepMode f 1) s) fun t => (s.setPle { s.ple with stepMode := false }).Answers t f.port 0x2D {}) ∧
    (s.ple.state.underWay = false → Completes (exec (.pause f) s) fun t =>
      s.Answers t f.port 0x2C { status := .wrongState }) ∧
    (s.ple.state.underWay = true → Completes (exec (.pause f) s) fun t =>
      (s.setPle { s.ple with pauseReq := true }).Answers t f.port 0x2C {})

/-- R124, R127, R143, R153, R156, R161 and R165: the plan is checked whole and started at a step, goes on from a pause and
from a halt, each with its notice, and a pending result is stored. The order of the
causes that RESUME_PLAN answers is the model's (DESIGN CHOICE, log 82). -/
def Obligations.PlanStartsComplete : Prop :=
  ∀ (s : State) (f : ReqFrame), s.Admits f →
    let p := s.ple
    (∀ start : Option Nat,
      let i := start.getD 0
      let runnable : Prop := p.state = .loaded ∨ p.state = .complete
      let refuses (r : Reply) : Prop := Reacts (exec (.runPlan f start) s) fun u => s.Answers u f.port 0x23 r
      (¬runnable → refuses { status := .wrongState }) ∧
      (runnable → p.length ≤ i → refuses { status := .badArgument }) ∧
      let passes (k : Nat) : Prop := ∃ y, p.table[k]? = some (some y) ∧ (y.kind = .handover → k + 1 = p.length) ∧
        (∀ b ∈ y.branches, (s.branch b).fitted = true) ∧
        (∀ c, y.channel = some c → ∀ b ∈ c.quantity.formedFrom, (s.branch b).fitted = true) ∧
        (y.kind = .soak → ∀ b ∈ y.branches, (s.pfl.branch b).threshold.isSome = true)
      (∀ k, runnable → i < p.length → k < p.length → (∀ j, j < k → passes j) → ¬passes k →
        refuses { status := .badArgument, payload := [.u 1 k] }) ∧
      (runnable → i < p.length → (∀ k, k < p.length → passes k) → Reacts (exec (.runPlan f start) s) fun u =>
        (s.setPle { p with state := .running, halt := none, pauseReq := false,
                           todo := some (.start (s.firstStart i)) }).Replies u f.port 0x23 {} ∧
          s.TellsPlan u .running .run)) ∧
    (p.state ≠ .paused → Reacts (exec (.resumePlan f) s) fun u =>
      s.Answers u f.port 0x2E { status := .wrongState }) ∧
    (∀ r, p.state = .paused → p.pauseRec = some r → Reacts (exec (.resumePlan f) s) fun u =>
      (s.setPle { p with state := .running, pauseRec := none, todo := some (.start r.next) }).Replies u f.port 0x2E
        { payload := .u 1 r.seen.length :: r.seen.map fun c => .u 1 (Cause.num c) } ∧ s.TellsPlan u .running .resume) ∧
    (p.state ≠ .halted → Reacts (exec (.resumeNext f) s) fun u =>
      s.Answers u f.port 0x2B { status := .wrongState }) ∧
    let heldBack : Prop := p.halt = some .recordFull ∧ s.acr.held.isSome = true
    (p.state = .halted → heldBack → s.acr.storable = false → Reacts (exec (.resumeNext f) s) fun u =>
      s.Answers u f.port 0x2B { status := .noSpace }) ∧
    (p.state = .halted → ¬(heldBack ∧ s.acr.storable = false) → Reacts (exec (.resumeNext f) s) fun u =>
      let i := p.position.getD 0 + 1
      ((s.setPle u.ple).setAcr u.acr).Replies u f.port 0x2B {} ∧
        (i < p.length →
          u.ple = { p with state := .running, halt := none, todo := some (.start (s.firstStart i)) } ∧
            s.TellsPlan u .running .resume) ∧
        (p.length ≤ i → u.ple = { p with state := .complete, halt := none, ctx := none, pauseReq := false } ∧
          s.TellsPlan u .complete .complete) ∧
        (¬heldBack → u.acr = s.acr) ∧
        ∀ e, p.halt = some .recordFull → s.acr.held = some e →
          u.acr = { (s.acr.withEntry e) with held := none } ∧ s.TellsEntry u e)

/-- R149's table: while which condition a cause is active for a step. -/
def activeWhile (s : State) (x : Step) : Cause → Prop
  | .unitMute => ∃ m, x.localMode = some m ∧
      ((s.tma.mute.h = true ∧ m.pair.1 ≠ .off) ∨ (s.tma.mute.v = true ∧ m.pair.2 ≠ .off))
  | .txFault => s.tma.settle = .fault
  | .remoteMode => ∃ m released a, s.pcu.req = .holding .plan m released .different a
  | .peerLoss => s.pcu.peer ≠ .paired
  | .sourceLoss => ∃ b ∈ (if x.kind = .xpd then [.mh, .mv] else x.branches), (s.branch b).active = false
  | .installerAbort => False

/-- R143, R146, R149, R150 and R151: what ABORT_STEP, CONTINUE, RESTART_STEP and SKIP_STEP do to a step under way, with its
notices. The order of CAUSE_ACTIVE's causes (log 82), how STEP_DONE tells of the entry and its items (logs 68 and 90), and
that the PLAN_STATE of a skip carries the index of the step skipped (log 87) are DESIGN CHOICE. -/
def Obligations.SuspensionRequestsComplete : Prop :=
  (∀ (s : State) (x : Step) (k : Cause), s.causeActive x k = true ↔ activeWhile s x k) ∧
  ∀ (s : State) (f : ReqFrame), s.Admits f →
    let wrong (i : Instr) (code : Nat) : Prop :=
      Reacts (exec i s) fun u => s.Answers u f.port code { status := .wrongState }
    (s.ple.state.underWay = false → wrong (.abortStep f) 0x27) ∧
    (s.ple.state.underWay = true → Reacts (exec (.abortStep f) s) fun u =>
      (s.setReports (s.reports ++ [.abort])).Answers u f.port 0x27 {}) ∧
    (s.ple.state ≠ .suspended → wrong (.continueStep f) 0x28 ∧ wrong (.restartStep f) 0x29 ∧ wrong (.skipStep f) 0x2A) ∧
    ∀ x c r, s.ple.state = .suspended → s.Doing x c → s.ple.susp = some r →
      let activeCauses := r.causes.filter (s.causeActive x)
      (activeCauses ≠ [] → Reacts (exec (.continueStep f) s) fun u =>
        s.Answers u f.port 0x28
          { status := .causeActive,
            payload := .u 1 activeCauses.length :: activeCauses.map fun k => .u 1 (Cause.num k) }) ∧
      (activeCauses = [] → Reacts (exec (.continueStep f) s) fun u =>
        (s.setPle { s.ple with state := .running, susp := none, limitTimer := none, todo := some .prepare }).Replies u
            f.port 0x28 {} ∧
          s.TellsPlan u .running .continued) ∧
      (Reacts (exec (.restartStep f) s) fun u =>
        let d : StepCtx := { c with elapsed := 0, started := false, half := x.firstHalf, testEnded := false }
        ((((s.setPle { s.ple with state := .running, susp := none, limitTimer := none, ctx := some d,
                                  todo := some .prepare }).setPtu u.ptu).setChu u.chu).setDraws u.draws).Replies u f.port
            0x29 {} ∧
          (x.kind ≠ .align → u.ptu = s.ptu) ∧
          (x.kind = .align → (∀ b, u.point b = if b ∈ x.branches then { s.point b with peak := none } else s.point b) ∧
            ∀ b rest, x.branches = b :: rest → u.ptu.pointing = b) ∧
          u.Told .planState (s.planTold .running .restart) ∧ u.chu.streams = s.chu.streams ∧
          ∀ h, (s.channel h = none → u.channel h = none) ∧ ∀ q, s.channel h = some q →
            (¬holdsChannel x c h → u.channel h = some q) ∧
            (holdsChannel x c h →
              let flushed : ChanRec :=
                { q with state := .bound, remaining := q.budget, stored := 0, missed := 0, dropped := 0, gap := 0,
                         fill := none, pages := List.replicate q.pageCount .free, timer := none }
              u.channel h = some flushed ∧ (q.state ≠ .bound →
                u.Told .channelState (channelTold h (some q.owner) (some q.state) (some flushed) none)))) ∧
      Reacts (exec (.skipStep f) s) fun u =>
        u.Responds f.port 0x2A {} ∧ s.Concludes u x c
          { verdict := .aborted, reason := some (.cause r.primary), items := [plainItem .elapsed c.elapsed .second] }
          .skipped

/-- R135 and R154: what ACCEPT_PEAK and FORCE_ACCEPT conclude, and what they wake. The conclusion goes on by its verdict
(R142, R155), at a boundary that pauses the plan and at one that does not, as the first part says of the function that does
it and `Concludes` of what the requests leave. The layout of NOT_AT_PEAK's answers (log 80), and how STEP_DONE tells of the
entry and its items (logs 68 and 90), are the model's (DESIGN CHOICE). -/
def Obligations.AcceptancesComplete : Prop :=
  (∀ (s : State) (x : Step) (c : StepCtx) (v : Verdict) (i : Nat), s.ple.position = some i → s.ple.state = .running →
    let t := s.goOn x c v
    let starts (st : StepStart) : Prop :=
      (s.ple.pauseReq = false → s.ple.stepMode = false → t = s.setTodo (some (.start st))) ∧
      (s.ple.pauseReq = true ∨ s.ple.stepMode = true → t.ple.state = .paused ∧ t.ple.ctx = none ∧
        t.ple.pauseReq = false ∧
        t.ple.pauseRec = some { reason := if s.ple.stepMode then .stepped else .pause, next := st, time := s.recTime, seen := [] })
    let halted : Prop :=
      t.ple.state = .halted ∧ t.ple.halt = some .onFail ∧ t.ple.ctx = none ∧ t.ple.position = some i ∧ t.ple.pauseReq = false
    let nextStep : Prop :=
      (i + 1 < s.ple.length → starts (s.firstStart (i + 1))) ∧
      (s.ple.length ≤ i + 1 → t.ple.state = .complete ∧ t.ple.ctx = none ∧ t.ple.pauseReq = false)
    (v = .pass → nextStep) ∧
    (v = .fail → (x.onFail = .continueOn → nextStep) ∧ (x.onFail = .stop → halted) ∧
      ∀ n, x.onFail = .repeatStep n →
        (0 < c.repeats → starts { index := i, attempt := c.attempt + 1, repeats := c.repeats - 1 }) ∧
        (c.repeats = 0 → halted)) ∧
    t = (s.setPle t.ple).setPif t.pif) ∧
  ∀ (s : State) (f : ReqFrame), s.Admits f →
    let wrong (i : Instr) (code : Nat) : Prop :=
      Reacts (exec i s) fun u => s.Answers u f.port code { status := .wrongState }
    ((∀ x c, s.Doing x c → ¬(s.ple.state = .running ∧ c.phase = .measure)) →
      wrong (.acceptPeak f) 0x25 ∧ wrong (.forceAccept f) 0x26) ∧
    ∀ x c, s.Doing x c → s.ple.state = .running → c.phase = .measure →
      (x.kind ≠ .align → wrong (.forceAccept f) 0x26) ∧
      (x.kind ≠ .align → x.kind ≠ .wait → wrong (.acceptPeak f) 0x25) ∧
      (x.kind = .align → Reacts (exec (.forceAccept f) s) fun u =>
        u.Responds f.port 0x26 {} ∧
          s.Concludes u x c { verdict := .fail, reason := some .forced, items := x.branches.flatMap s.alignItems }
            .byVerdict) ∧
      (x.kind = .align → (∀ b ∈ x.branches, s.atPeak b c.limits.tolerance = true) →
        Reacts (exec (.acceptPeak f) s) fun u =>
          u.Responds f.port 0x25 {} ∧
            s.Concludes u x c { verdict := .pass, reason := none, items := x.branches.flatMap s.alignItems }
              .byVerdict) ∧
      (x.kind = .align → (∃ b ∈ x.branches, s.atPeak b c.limits.tolerance = false) →
        Reacts (exec (.acceptPeak f) s) fun u =>
          s.Answers u f.port 0x25
            { status := .notAtPeak,
              payload := .u 1 x.branches.length ::
                x.branches.flatMap fun b => [.u 1 (Branch.num b), yes (s.atPeak b c.limits.tolerance)] }) ∧
      (x.kind = .wait → Reacts (exec (.acceptPeak f) s) fun u =>
        let d : StepCtx := { c with acc := { c.acc with wakes := min 65535 (c.acc.wakes + 1) } }
        u.Responds f.port 0x25 { status := .wrongState } ∧
          (¬s.WaitMet x → (s.setPle { s.ple with ctx := some d }).Answers u f.port 0x25 { status := .wrongState }) ∧
          (s.WaitMet x → s.Concludes u x d
            { verdict := .pass, reason := none, items := [plainItem .wakeCount d.acc.wakes .count] } .byVerdict))

/-- R125, R126, R143, R161, R165 and R170: a stop and a reset of the plan, what becomes of its step, of what the step held
and of the record, and the notices. How STEP_DONE tells of the entry and its items (logs 68 and 90), that a plan reset posts
PLAN_STATE also where the state stays (DEDUCED, log 44), and what a test's end leaves of its interval (log 59), are the
model's. -/
def Obligations.PlanEndsComplete : Prop :=
  ∀ (s : State) (f : ReqFrame),
    let p := s.ple
    let ended (st : PlanState) : Ple :=
      { p with state := st, ctx := none, halt := none, pauseReq := false, susp := none, limitTimer := none,
               pauseRec := none, todo := none }
    let rest : PlanState := if p.length = 0 then .idle else .loaded
    (s.Admits f →
      (p.state.stoppable = false → Completes (exec (.stopPlan f) s) fun t =>
        s.Answers t f.port 0x24 { status := .wrongState }) ∧
      (p.state = .paused → Completes (exec (.stopPlan f) s) fun t =>
        (s.setPle (ended .loaded)).Replies t f.port 0x24 {} ∧ s.TellsPlan t .loaded .stop) ∧
      (p.state = .halted → Completes (exec (.stopPlan f) s) fun t =>
        ((s.setPle (ended .loaded)).setAcr t.acr).Replies t f.port 0x24
            { discarded := s.acr.held.isSome && !s.acr.storable } ∧
          s.TellsPlan t .loaded .stop ∧
          (s.acr.held = none ∨ s.acr.storable = false → t.acr = { s.acr with held := none }) ∧
          ∀ e, s.acr.held = some e → s.acr.storable = true →
            t.acr = { (s.acr.withEntry e) with held := none } ∧ s.TellsEntry t e) ∧
      ∀ x c, p.state = .running ∨ p.state = .suspended → s.Doing x c → Completes (exec (.stopPlan f) s) fun t =>
        let e := s.entryOf x c .stepResult
          { verdict := .incomplete, reason := some .stopped, items := [plainItem .elapsed c.elapsed .second] }
        let a : Acr := if s.acr.state = .closing then { s.acr with state := .opened, localDigest := none } else s.acr
        t.Responds f.port 0x24 { discarded := !s.acr.storable } ∧ t.ple = ended .loaded ∧ s.TellsPlan t .loaded .stop ∧
          (s.acr.storable = true → t.acr = a.withEntry e ∧ s.TellsEntry t e) ∧ (s.acr.storable = false → t.acr = a) ∧
          s.GivesBack t x c ∧
          s.TellsDone t x c .incomplete (some .stopped) [plainItem .elapsed c.elapsed .second]
            (if s.acr.storable then .u 1 0 :: optU 2 (some s.acr.next) else .u 1 2 :: optU 2 none) ∧
          t.blu = s.blu ∧ t.pfl = s.pfl ∧ t.clock = s.clock ∧ t.pending = s.pending ∧ t.reports = s.reports) ∧
    (s.Serves f → s.acr.state = .closed → Completes (exec (.resetPlan f) s) fun t =>
      s.Answers t f.port 0x30 { status := .closed }) ∧
    (s.Serves f → s.acr.state ≠ .closed → Completes (exec (.resetPlan f) s) fun t =>
      t.Responds f.port 0x30 { discarded := s.acr.held.isSome } ∧ t.ple = ended rest ∧ s.TellsPlan t rest .reset ∧
        t.acr = { s.acr with held := none, state := .opened,
                             localDigest := if s.acr.state = .closing then none else s.acr.localDigest } ∧
        t.tma = Tma.arbitrated { s.tma with planSlot := none } s.pfl.link.commPower ∧
        (∀ c r, s.channel c = some r → t.channel c = if r.owner = .plan then none else some r) ∧
        (s.etu.test.owner ≠ some .plan → t.etu = s.etu) ∧
        (s.etu.test.owner = some .plan →
          (s.etu.test.active = false → t.etu = { s.etu with test := { s.etu.test with owner := none } }) ∧
          (s.etu.test.active = true → t.etu.gens = s.etu.gens ∧
            t.etu.test = { s.etu.test with state := .stopped, timer := none, cause := some .reset, owner := none } ∧
            ∀ q, t.count q = if s.etu.tested q then (s.count q).ended else s.count q)) ∧
        s.PointsOn t ∧ t.draws = s.draws ∧ t.chu.streams = s.chu.streams ∧ (∀ c, s.channel c = none → t.channel c = none) ∧
        (s.pcu.req.requester ≠ some .plan → t.pcu = s.pcu) ∧
        (s.pcu.req.requester = some .plan → t.pcu = s.pcu.afterRelease) ∧
        t.blu = s.blu ∧ t.pfl = s.pfl ∧ t.clock = s.clock ∧ t.pending = s.pending ∧ t.reports = s.reports)

/-! ## Values held, the record and the profile -/

/-- R10, R94, R177, R180 and R195: the requests that hold one value, RESET_PART, and a code that R179 does not give. That
SET_TEMPERATURE answers with the held temperature as a signed two-byte number is log 53's (DESIGN CHOICE). -/
def Obligations.HeldValuesComplete : Prop :=
  (∀ (s : State) (f : ReqFrame), s.ServesUnit f →
    (∀ celsius : Int, Completes (exec (.setTemperature f celsius) s) fun t =>
      let held := max (-55) (min 125 celsius)
      (s.setBlu { s.blu with temp := { held := held, status := .fresh, timer := some 60000 } }).Answers t .unit 0x32
        { clamped := held != celsius, payload := [.s 2 held] }) ∧
    (∀ power : Int, Completes (exec (.setTxPower f power) s) fun t =>
      let held := max (-100) (min 350 power)
      (s.setTma { s.tma with power := some held }).Answers t .unit 0x34 { clamped := held != power }) ∧
    (∀ offset : BitVec 32, Completes (exec (.setEpoch f offset) s) fun t =>
      (s.setPfl { s.pfl with epoch := some offset }).Answers t .unit 0x3A {}) ∧
    Completes (exec (.resetPart f) s) fun t => s.Answers t .unit 0x3B {}) ∧
  (∀ (s : State) (f : ReqFrame), s.Admits f → ∀ mask : BitVec 16,
    (4096 ≤ mask.toNat → Completes (exec (.setNoticeMask f mask) s) fun t =>
      s.Answers t f.port 0x2F { status := .badArgument }) ∧
    (mask.toNat < 4096 → Completes (exec (.setNoticeMask f mask) s) fun t =>
      (s.setPort f.port { s.port f.port with mask := mask }).Answers t f.port 0x2F {})) ∧
  ∀ (s : State) (f : ReqFrame) (code : Nat), s.disregards f = false → (s.port f.port).inService = none →
    s.pfl.status ≠ .reading → badLength f = false → Completes (exec (.unknownRequest f code) s) fun t =>
      s.Answers t f.port code { status := .unknownCommand }

/-- R163, R164, R161 and R172: an entry is waived, the superseded entries are purged and a CLOSED record is reopened,
each stored entry with its notice, and what refuses each. -/
def Obligations.RecordRequestsComplete : Prop :=
  ∀ (s : State) (f : ReqFrame), s.ServesUnit f →
    let a := s.acr
    let full : Prop := 96 ≤ a.entries.length ∨ 65536 ≤ a.next
    let plain (kind : EntryKind) (v : Option Verdict) (ref : Option Nat) (items : List Item) : Entry :=
      { seq := a.next, kind := kind, step := none, verdict := v, reason := none, startTime := s.recTime,
        endTime := s.recTime, suspensions := 0, superseded := false, ref := ref, items := items }
    (∀ n,
      let refuses (st : Status) : Prop :=
        Completes (exec (.waive f n) s) fun t => s.Answers t .unit 0x36 { status := st }
      (n = 0 → refuses .badArgument) ∧ (0 < n → a.state ≠ .opened → refuses .wrongState) ∧
      (0 < n → a.state = .opened → (∀ e ∈ a.entries, e.seq ≠ n) → refuses .notFound) ∧
      ∀ e, 0 < n → a.state = .opened → (a.entries.find? fun e => e.seq == n) = some e →
        let waivable : Prop :=
          e.kind = .stepResult ∧ e.superseded = false ∧ (e.verdict = some .fail ∨ e.verdict = some .aborted) ∧
            ∀ w ∈ a.entries, ¬(w.kind = .waiver ∧ w.ref = some n)
        (¬waivable → refuses .wrongState) ∧ (waivable → full → refuses .noSpace) ∧
        (waivable → ¬full → Completes (exec (.waive f n) s) fun t =>
          let w := plain .waiver (some .waived) (some n) [plainItem .waivedSequence n .count]
          (s.setAcr { a with entries := a.entries ++ [w], next := a.next + 1 }).Replies t .unit 0x36
              { payload := [.u 2 a.next] } ∧
            t.Notified .entryAppended (entryTold a.next .waiver none (some .waived) (a.entries.length + 1)))) ∧
    (a.state ≠ .opened → Completes (exec (.purgeSuperseded f) s) fun t =>
      s.Answers t .unit 0x37 { status := .wrongState }) ∧
    (a.state = .opened → Completes (exec (.purgeSuperseded f) s) fun t =>
      let gone (e : Entry) : Bool :=
        e.superseded || (e.kind == .waiver && a.entries.any fun x => x.superseded && e.ref == some x.seq)
      let kept := a.entries.filter fun e => !gone e
      (s.setAcr { a with entries := kept }).Answers t .unit 0x37
        { payload := [.u 1 (a.entries.length - kept.length), .u 1 kept.length] }) ∧
    (a.state ≠ .closed → Completes (exec (.reopen f) s) fun t =>
      s.Answers t .unit 0x38 { status := .wrongState }) ∧
    (a.state = .closed → full → Completes (exec (.reopen f) s) fun t =>
      s.Answers t .unit 0x38 { status := .noSpace }) ∧
    (a.state = .closed → ¬full → Completes (exec (.reopen f) s) fun t =>
      let digest (code : ItemCode) (x : Option Check) : Item := plainItem code ((x.getD 0).toNat : Int) .count
      let e := plain .reopened none none [digest .digestLocal a.localDigest, digest .digestPeer a.peerDigest]
      ((s.setAcr { entries := a.entries ++ [e], state := .opened, next := a.next + 1, localDigest := none,
                   peerDigest := none, echo := none, held := a.held }).setPle { s.ple with state := .loaded }).Replies t
          .unit 0x38 {} ∧
        t.Told .entryAppended (entryTold a.next .reopened none none (a.entries.length + 1)) ∧
        s.TellsPlan t .loaded .reopen)

/-- R4, R18, R54, R103, R112, R166, R190, R192, R193 and R196: an image is refused while the plan stands between its
steps, refused with the condition it breaks, or applied, told in PROFILE_STATUS and noted in the record: a branch that
leaves the fitted set is lost to its pointing record, its channels and the outgoing frame, and the pairing check on the
last taken frame can make a held turn silent, and one still silent starts its hold time again (DESIGN CHOICE, log 78). -/
def Obligations.LoadProfileCompletes : Prop :=
  ∀ (s : State) (f : ReqFrame) (image : List Byte), s.ServesUnit f →
    let busy : Prop := s.ple.state = .running ∨ s.ple.state = .paused ∨ s.ple.state = .suspended ∨ s.ple.state = .halted
    let notes : Bool := s.acr.state == .opened && !s.acr.entries.isEmpty
    (busy → Reacts (exec (.loadProfile f image) s) fun u => s.Answers u .unit 0x39 { status := .wrongState }) ∧
    (∀ r, ¬busy → judgeImage image = .error r → Reacts (exec (.loadProfile f image) s) fun u =>
      (s.setPfl { s.pfl with rejection := some r }).Answers u .unit 0x39
        { status := .badProfile, payload := .u 1 (RejectReason.num r.reason) :: optU 2 r.offset }) ∧
    ∀ xs, ¬busy → judgeImage image = .ok xs →
      (notes = true → s.acr.storable = false → Reacts (exec (.loadProfile f image) s) fun u =>
        s.Answers u .unit 0x39 { status := .noSpace }) ∧
      (notes = false ∨ s.acr.storable = true → Reacts (exec (.loadProfile f image) s) fun u =>
        let link := u.pfl.link
        let lost (b : Branch) : Prop := (s.branch b).active = true ∧ link.fitted.get b = false
        let peer : PeerState := match s.pcu.peer, s.pcu.last with
          | .solo, _ => .solo
          | _, some g => judgedPeer link g
          | old, none => old
        let same (u : State) : Prop :=
          u.ptu.far = s.ptu.far ∧ u.tma.driven.h = s.tma.driven.h ∧ u.tma.driven.v = s.tma.driven.v
        u.pfl = { s.pfl with active := sectionsOf xs, status := .port, crc := some (imageCrc image) } ∧
          (∀ b, (u.branch b).fitted = link.fitted.get b ∧
            (u.branch b).active = (link.fitted.get b && (!(s.branch b).fitted || (s.branch b).active)) ∧
            (u.branch b).table = (u.pfl.branch b).table ∧ (u.branch b).slope = (u.pfl.branch b).slope ∧
            (u.branch b).shift = (u.pfl.branch b).shift ∧
            ((u.branch b).origin = if (u.pfl.active.branch.get b).isSome then .profile else .default)) ∧
          u.Notified .profileStatus (profileTold u.pfl) ∧
          (∀ b, (lost b → (u.branch b).seed = none) ∧
            (link.fitted.get b = true → u.seed b = if (s.branch b).fitted then s.seed b else none)) ∧
          u.tma = s.tma.arbitrated link.commPower ∧
          (∀ b, u.pcu.out.get b = s.pcu.out.get b ∨ lost b) ∧ (∀ b, lost b → u.pcu.out.get b = none) ∧
          (let p : Pcu := { s.pcu with peer := peer, out := u.pcu.out }
           u.pcu = if s.pcu.peer = .paired ∧ peer ≠ .paired then p.silenced u.pfl.timing.holdTime else p) ∧
          (peer = s.pcu.peer → u.ptu.far = s.ptu.far) ∧
          (peer ≠ s.pcu.peer → peer ≠ .paired → u.ptu.far = ⟨.nominal, .nominal⟩) ∧
          (∀ g, peer ≠ s.pcu.peer → peer = .paired → s.pcu.last = some g →
            u.ptu.far = ⟨farShown g .h s.ptu.far.h, farShown g .v s.ptu.far.v⟩) ∧
          (∀ b, lost b → u.point b = .powerOn) ∧
          (∀ b, ¬lost b → u.point b = if same u then s.point b else { s.point b with stable := 0 }) ∧
          u.ptu.pointing = s.ptu.pointing ∧
          (¬lost s.ptu.pointing → u.ptu = { s.ptu with far := u.ptu.far, recs := u.ptu.recs }) ∧
          (lost s.ptu.pointing → u.ptu.voltage = 0 ∧ u.ptu.cadence = .silent ∧ u.ptu.burst = none) ∧
          u.chu.streams = s.chu.streams ∧ (∀ c, s.channel c = none → u.channel c = none) ∧
          (∀ c r, s.channel c = some r →
            (r.state = .running → (∃ b ∈ r.quantity.formedFrom, lost b) →
              u.channel c = some { r with state := .halted .sourceLost, timer := none }) ∧
            (r.state ≠ .running ∨ (∀ b ∈ r.quantity.formedFrom, ¬lost b) → u.channel c = some r)) ∧
          (∀ b, lost b → .branchOff b ∈ u.reports ∧
            ((s.point b).cls ≠ .none → .classChange b (s.point b).cls .none ∈ u.reports)) ∧
          (notes = true → u.acr.next = s.acr.next + 1 ∧ ∃ e, u.acr.entries = s.acr.entries ++ [e] ∧
            e.kind = .profileChanged ∧ e.seq = s.acr.next ∧
            e.items = [plainItem .profileCrc ((imageCrc image).toNat : Int) .count] ∧
            u.Told .entryAppended (entryTold s.acr.next .profileChanged none none (s.acr.entries.length + 1))) ∧
          (notes = false → u.acr = s.acr) ∧
          u.Responds .unit 0x39
            { payload := .u 2 (imageCrc image).toNat :: optU 2 (if notes then some s.acr.next else none) } ∧
          u.etu = s.etu ∧ u.ple = s.ple ∧ u.blu.temp = s.blu.temp ∧ u.clock = s.clock ∧ u.pending = s.pending)
end

