-- ==== Sys2Proof/Laws/State.lean ====
section
/-! SUPPORT. What each replacement of one block's state leaves: one lemma per update and field, all by definition. -/

namespace Sys2Proof.Machine

@[simp] theorem State.setBlu_blu (s : State) (x : Blu) : (s.setBlu x).blu = x := rfl
@[simp] theorem State.setBlu_ptu (s : State) (x : Blu) : (s.setBlu x).ptu = s.ptu := rfl
@[simp] theorem State.setBlu_chu (s : State) (x : Blu) : (s.setBlu x).chu = s.chu := rfl
@[simp] theorem State.setBlu_etu (s : State) (x : Blu) : (s.setBlu x).etu = s.etu := rfl
@[simp] theorem State.setBlu_tma (s : State) (x : Blu) : (s.setBlu x).tma = s.tma := rfl
@[simp] theorem State.setBlu_pcu (s : State) (x : Blu) : (s.setBlu x).pcu = s.pcu := rfl
@[simp] theorem State.setBlu_ple (s : State) (x : Blu) : (s.setBlu x).ple = s.ple := rfl
@[simp] theorem State.setBlu_acr (s : State) (x : Blu) : (s.setBlu x).acr = s.acr := rfl
@[simp] theorem State.setBlu_pif (s : State) (x : Blu) : (s.setBlu x).pif = s.pif := rfl
@[simp] theorem State.setBlu_pfl (s : State) (x : Blu) : (s.setBlu x).pfl = s.pfl := rfl
@[simp] theorem State.setBlu_clock (s : State) (x : Blu) : (s.setBlu x).clock = s.clock := rfl
@[simp] theorem State.setBlu_pending (s : State) (x : Blu) : (s.setBlu x).pending = s.pending := rfl
@[simp] theorem State.setBlu_reports (s : State) (x : Blu) : (s.setBlu x).reports = s.reports := rfl
@[simp] theorem State.setBlu_draws (s : State) (x : Blu) : (s.setBlu x).draws = s.draws := rfl

@[simp] theorem State.setPtu_blu (s : State) (x : Ptu) : (s.setPtu x).blu = s.blu := rfl
@[simp] theorem State.setPtu_ptu (s : State) (x : Ptu) : (s.setPtu x).ptu = x := rfl
@[simp] theorem State.setPtu_chu (s : State) (x : Ptu) : (s.setPtu x).chu = s.chu := rfl
@[simp] theorem State.setPtu_etu (s : State) (x : Ptu) : (s.setPtu x).etu = s.etu := rfl
@[simp] theorem State.setPtu_tma (s : State) (x : Ptu) : (s.setPtu x).tma = s.tma := rfl
@[simp] theorem State.setPtu_pcu (s : State) (x : Ptu) : (s.setPtu x).pcu = s.pcu := rfl
@[simp] theorem State.setPtu_ple (s : State) (x : Ptu) : (s.setPtu x).ple = s.ple := rfl
@[simp] theorem State.setPtu_acr (s : State) (x : Ptu) : (s.setPtu x).acr = s.acr := rfl
@[simp] theorem State.setPtu_pif (s : State) (x : Ptu) : (s.setPtu x).pif = s.pif := rfl
@[simp] theorem State.setPtu_pfl (s : State) (x : Ptu) : (s.setPtu x).pfl = s.pfl := rfl
@[simp] theorem State.setPtu_clock (s : State) (x : Ptu) : (s.setPtu x).clock = s.clock := rfl
@[simp] theorem State.setPtu_pending (s : State) (x : Ptu) : (s.setPtu x).pending = s.pending := rfl
@[simp] theorem State.setPtu_reports (s : State) (x : Ptu) : (s.setPtu x).reports = s.reports := rfl
@[simp] theorem State.setPtu_draws (s : State) (x : Ptu) : (s.setPtu x).draws = s.draws := rfl

@[simp] theorem State.setChu_blu (s : State) (x : Chu) : (s.setChu x).blu = s.blu := rfl
@[simp] theorem State.setChu_ptu (s : State) (x : Chu) : (s.setChu x).ptu = s.ptu := rfl
@[simp] theorem State.setChu_chu (s : State) (x : Chu) : (s.setChu x).chu = x := rfl
@[simp] theorem State.setChu_etu (s : State) (x : Chu) : (s.setChu x).etu = s.etu := rfl
@[simp] theorem State.setChu_tma (s : State) (x : Chu) : (s.setChu x).tma = s.tma := rfl
@[simp] theorem State.setChu_pcu (s : State) (x : Chu) : (s.setChu x).pcu = s.pcu := rfl
@[simp] theorem State.setChu_ple (s : State) (x : Chu) : (s.setChu x).ple = s.ple := rfl
@[simp] theorem State.setChu_acr (s : State) (x : Chu) : (s.setChu x).acr = s.acr := rfl
@[simp] theorem State.setChu_pif (s : State) (x : Chu) : (s.setChu x).pif = s.pif := rfl
@[simp] theorem State.setChu_pfl (s : State) (x : Chu) : (s.setChu x).pfl = s.pfl := rfl
@[simp] theorem State.setChu_clock (s : State) (x : Chu) : (s.setChu x).clock = s.clock := rfl
@[simp] theorem State.setChu_pending (s : State) (x : Chu) : (s.setChu x).pending = s.pending := rfl
@[simp] theorem State.setChu_reports (s : State) (x : Chu) : (s.setChu x).reports = s.reports := rfl
@[simp] theorem State.setChu_draws (s : State) (x : Chu) : (s.setChu x).draws = s.draws := rfl

@[simp] theorem State.setEtu_blu (s : State) (x : Etu) : (s.setEtu x).blu = s.blu := rfl
@[simp] theorem State.setEtu_ptu (s : State) (x : Etu) : (s.setEtu x).ptu = s.ptu := rfl
@[simp] theorem State.setEtu_chu (s : State) (x : Etu) : (s.setEtu x).chu = s.chu := rfl
@[simp] theorem State.setEtu_etu (s : State) (x : Etu) : (s.setEtu x).etu = x := rfl
@[simp] theorem State.setEtu_tma (s : State) (x : Etu) : (s.setEtu x).tma = s.tma := rfl
@[simp] theorem State.setEtu_pcu (s : State) (x : Etu) : (s.setEtu x).pcu = s.pcu := rfl
@[simp] theorem State.setEtu_ple (s : State) (x : Etu) : (s.setEtu x).ple = s.ple := rfl
@[simp] theorem State.setEtu_acr (s : State) (x : Etu) : (s.setEtu x).acr = s.acr := rfl
@[simp] theorem State.setEtu_pif (s : State) (x : Etu) : (s.setEtu x).pif = s.pif := rfl
@[simp] theorem State.setEtu_pfl (s : State) (x : Etu) : (s.setEtu x).pfl = s.pfl := rfl
@[simp] theorem State.setEtu_clock (s : State) (x : Etu) : (s.setEtu x).clock = s.clock := rfl
@[simp] theorem State.setEtu_pending (s : State) (x : Etu) : (s.setEtu x).pending = s.pending := rfl
@[simp] theorem State.setEtu_reports (s : State) (x : Etu) : (s.setEtu x).reports = s.reports := rfl
@[simp] theorem State.setEtu_draws (s : State) (x : Etu) : (s.setEtu x).draws = s.draws := rfl

@[simp] theorem State.setTma_blu (s : State) (x : Tma) : (s.setTma x).blu = s.blu := rfl
@[simp] theorem State.setTma_ptu (s : State) (x : Tma) : (s.setTma x).ptu = s.ptu := rfl
@[simp] theorem State.setTma_chu (s : State) (x : Tma) : (s.setTma x).chu = s.chu := rfl
@[simp] theorem State.setTma_etu (s : State) (x : Tma) : (s.setTma x).etu = s.etu := rfl
@[simp] theorem State.setTma_tma (s : State) (x : Tma) : (s.setTma x).tma = x := rfl
@[simp] theorem State.setTma_pcu (s : State) (x : Tma) : (s.setTma x).pcu = s.pcu := rfl
@[simp] theorem State.setTma_ple (s : State) (x : Tma) : (s.setTma x).ple = s.ple := rfl
@[simp] theorem State.setTma_acr (s : State) (x : Tma) : (s.setTma x).acr = s.acr := rfl
@[simp] theorem State.setTma_pif (s : State) (x : Tma) : (s.setTma x).pif = s.pif := rfl
@[simp] theorem State.setTma_pfl (s : State) (x : Tma) : (s.setTma x).pfl = s.pfl := rfl
@[simp] theorem State.setTma_clock (s : State) (x : Tma) : (s.setTma x).clock = s.clock := rfl
@[simp] theorem State.setTma_pending (s : State) (x : Tma) : (s.setTma x).pending = s.pending := rfl
@[simp] theorem State.setTma_reports (s : State) (x : Tma) : (s.setTma x).reports = s.reports := rfl
@[simp] theorem State.setTma_draws (s : State) (x : Tma) : (s.setTma x).draws = s.draws := rfl

@[simp] theorem State.setPcu_blu (s : State) (x : Pcu) : (s.setPcu x).blu = s.blu := rfl
@[simp] theorem State.setPcu_ptu (s : State) (x : Pcu) : (s.setPcu x).ptu = s.ptu := rfl
@[simp] theorem State.setPcu_chu (s : State) (x : Pcu) : (s.setPcu x).chu = s.chu := rfl
@[simp] theorem State.setPcu_etu (s : State) (x : Pcu) : (s.setPcu x).etu = s.etu := rfl
@[simp] theorem State.setPcu_tma (s : State) (x : Pcu) : (s.setPcu x).tma = s.tma := rfl
@[simp] theorem State.setPcu_pcu (s : State) (x : Pcu) : (s.setPcu x).pcu = x := rfl
@[simp] theorem State.setPcu_ple (s : State) (x : Pcu) : (s.setPcu x).ple = s.ple := rfl
@[simp] theorem State.setPcu_acr (s : State) (x : Pcu) : (s.setPcu x).acr = s.acr := rfl
@[simp] theorem State.setPcu_pif (s : State) (x : Pcu) : (s.setPcu x).pif = s.pif := rfl
@[simp] theorem State.setPcu_pfl (s : State) (x : Pcu) : (s.setPcu x).pfl = s.pfl := rfl
@[simp] theorem State.setPcu_clock (s : State) (x : Pcu) : (s.setPcu x).clock = s.clock := rfl
@[simp] theorem State.setPcu_pending (s : State) (x : Pcu) : (s.setPcu x).pending = s.pending := rfl
@[simp] theorem State.setPcu_reports (s : State) (x : Pcu) : (s.setPcu x).reports = s.reports := rfl
@[simp] theorem State.setPcu_draws (s : State) (x : Pcu) : (s.setPcu x).draws = s.draws := rfl

@[simp] theorem State.setPle_blu (s : State) (x : Ple) : (s.setPle x).blu = s.blu := rfl
@[simp] theorem State.setPle_ptu (s : State) (x : Ple) : (s.setPle x).ptu = s.ptu := rfl
@[simp] theorem State.setPle_chu (s : State) (x : Ple) : (s.setPle x).chu = s.chu := rfl
@[simp] theorem State.setPle_etu (s : State) (x : Ple) : (s.setPle x).etu = s.etu := rfl
@[simp] theorem State.setPle_tma (s : State) (x : Ple) : (s.setPle x).tma = s.tma := rfl
@[simp] theorem State.setPle_pcu (s : State) (x : Ple) : (s.setPle x).pcu = s.pcu := rfl
@[simp] theorem State.setPle_ple (s : State) (x : Ple) : (s.setPle x).ple = x := rfl
@[simp] theorem State.setPle_acr (s : State) (x : Ple) : (s.setPle x).acr = s.acr := rfl
@[simp] theorem State.setPle_pif (s : State) (x : Ple) : (s.setPle x).pif = s.pif := rfl
@[simp] theorem State.setPle_pfl (s : State) (x : Ple) : (s.setPle x).pfl = s.pfl := rfl
@[simp] theorem State.setPle_clock (s : State) (x : Ple) : (s.setPle x).clock = s.clock := rfl
@[simp] theorem State.setPle_pending (s : State) (x : Ple) : (s.setPle x).pending = s.pending := rfl
@[simp] theorem State.setPle_reports (s : State) (x : Ple) : (s.setPle x).reports = s.reports := rfl
@[simp] theorem State.setPle_draws (s : State) (x : Ple) : (s.setPle x).draws = s.draws := rfl

@[simp] theorem State.setAcr_blu (s : State) (x : Acr) : (s.setAcr x).blu = s.blu := rfl
@[simp] theorem State.setAcr_ptu (s : State) (x : Acr) : (s.setAcr x).ptu = s.ptu := rfl
@[simp] theorem State.setAcr_chu (s : State) (x : Acr) : (s.setAcr x).chu = s.chu := rfl
@[simp] theorem State.setAcr_etu (s : State) (x : Acr) : (s.setAcr x).etu = s.etu := rfl
@[simp] theorem State.setAcr_tma (s : State) (x : Acr) : (s.setAcr x).tma = s.tma := rfl
@[simp] theorem State.setAcr_pcu (s : State) (x : Acr) : (s.setAcr x).pcu = s.pcu := rfl
@[simp] theorem State.setAcr_ple (s : State) (x : Acr) : (s.setAcr x).ple = s.ple := rfl
@[simp] theorem State.setAcr_acr (s : State) (x : Acr) : (s.setAcr x).acr = x := rfl
@[simp] theorem State.setAcr_pif (s : State) (x : Acr) : (s.setAcr x).pif = s.pif := rfl
@[simp] theorem State.setAcr_pfl (s : State) (x : Acr) : (s.setAcr x).pfl = s.pfl := rfl
@[simp] theorem State.setAcr_clock (s : State) (x : Acr) : (s.setAcr x).clock = s.clock := rfl
@[simp] theorem State.setAcr_pending (s : State) (x : Acr) : (s.setAcr x).pending = s.pending := rfl
@[simp] theorem State.setAcr_reports (s : State) (x : Acr) : (s.setAcr x).reports = s.reports := rfl
@[simp] theorem State.setAcr_draws (s : State) (x : Acr) : (s.setAcr x).draws = s.draws := rfl

@[simp] theorem State.setPif_blu (s : State) (x : Pif) : (s.setPif x).blu = s.blu := rfl
@[simp] theorem State.setPif_ptu (s : State) (x : Pif) : (s.setPif x).ptu = s.ptu := rfl
@[simp] theorem State.setPif_chu (s : State) (x : Pif) : (s.setPif x).chu = s.chu := rfl
@[simp] theorem State.setPif_etu (s : State) (x : Pif) : (s.setPif x).etu = s.etu := rfl
@[simp] theorem State.setPif_tma (s : State) (x : Pif) : (s.setPif x).tma = s.tma := rfl
@[simp] theorem State.setPif_pcu (s : State) (x : Pif) : (s.setPif x).pcu = s.pcu := rfl
@[simp] theorem State.setPif_ple (s : State) (x : Pif) : (s.setPif x).ple = s.ple := rfl
@[simp] theorem State.setPif_acr (s : State) (x : Pif) : (s.setPif x).acr = s.acr := rfl
@[simp] theorem State.setPif_pif (s : State) (x : Pif) : (s.setPif x).pif = x := rfl
@[simp] theorem State.setPif_pfl (s : State) (x : Pif) : (s.setPif x).pfl = s.pfl := rfl
@[simp] theorem State.setPif_clock (s : State) (x : Pif) : (s.setPif x).clock = s.clock := rfl
@[simp] theorem State.setPif_pending (s : State) (x : Pif) : (s.setPif x).pending = s.pending := rfl
@[simp] theorem State.setPif_reports (s : State) (x : Pif) : (s.setPif x).reports = s.reports := rfl
@[simp] theorem State.setPif_draws (s : State) (x : Pif) : (s.setPif x).draws = s.draws := rfl

@[simp] theorem State.setPfl_blu (s : State) (x : Pfl) : (s.setPfl x).blu = s.blu := rfl
@[simp] theorem State.setPfl_ptu (s : State) (x : Pfl) : (s.setPfl x).ptu = s.ptu := rfl
@[simp] theorem State.setPfl_chu (s : State) (x : Pfl) : (s.setPfl x).chu = s.chu := rfl
@[simp] theorem State.setPfl_etu (s : State) (x : Pfl) : (s.setPfl x).etu = s.etu := rfl
@[simp] theorem State.setPfl_tma (s : State) (x : Pfl) : (s.setPfl x).tma = s.tma := rfl
@[simp] theorem State.setPfl_pcu (s : State) (x : Pfl) : (s.setPfl x).pcu = s.pcu := rfl
@[simp] theorem State.setPfl_ple (s : State) (x : Pfl) : (s.setPfl x).ple = s.ple := rfl
@[simp] theorem State.setPfl_acr (s : State) (x : Pfl) : (s.setPfl x).acr = s.acr := rfl
@[simp] theorem State.setPfl_pif (s : State) (x : Pfl) : (s.setPfl x).pif = s.pif := rfl
@[simp] theorem State.setPfl_pfl (s : State) (x : Pfl) : (s.setPfl x).pfl = x := rfl
@[simp] theorem State.setPfl_clock (s : State) (x : Pfl) : (s.setPfl x).clock = s.clock := rfl
@[simp] theorem State.setPfl_pending (s : State) (x : Pfl) : (s.setPfl x).pending = s.pending := rfl
@[simp] theorem State.setPfl_reports (s : State) (x : Pfl) : (s.setPfl x).reports = s.reports := rfl
@[simp] theorem State.setPfl_draws (s : State) (x : Pfl) : (s.setPfl x).draws = s.draws := rfl

@[simp] theorem State.setClock_blu (s : State) (x : Clock) : (s.setClock x).blu = s.blu := rfl
@[simp] theorem State.setClock_ptu (s : State) (x : Clock) : (s.setClock x).ptu = s.ptu := rfl
@[simp] theorem State.setClock_chu (s : State) (x : Clock) : (s.setClock x).chu = s.chu := rfl
@[simp] theorem State.setClock_etu (s : State) (x : Clock) : (s.setClock x).etu = s.etu := rfl
@[simp] theorem State.setClock_tma (s : State) (x : Clock) : (s.setClock x).tma = s.tma := rfl
@[simp] theorem State.setClock_pcu (s : State) (x : Clock) : (s.setClock x).pcu = s.pcu := rfl
@[simp] theorem State.setClock_ple (s : State) (x : Clock) : (s.setClock x).ple = s.ple := rfl
@[simp] theorem State.setClock_acr (s : State) (x : Clock) : (s.setClock x).acr = s.acr := rfl
@[simp] theorem State.setClock_pif (s : State) (x : Clock) : (s.setClock x).pif = s.pif := rfl
@[simp] theorem State.setClock_pfl (s : State) (x : Clock) : (s.setClock x).pfl = s.pfl := rfl
@[simp] theorem State.setClock_clock (s : State) (x : Clock) : (s.setClock x).clock = x := rfl
@[simp] theorem State.setClock_pending (s : State) (x : Clock) : (s.setClock x).pending = s.pending := rfl
@[simp] theorem State.setClock_reports (s : State) (x : Clock) : (s.setClock x).reports = s.reports := rfl
@[simp] theorem State.setClock_draws (s : State) (x : Clock) : (s.setClock x).draws = s.draws := rfl

@[simp] theorem State.setPending_blu (s : State) (x : List Instr) : (s.setPending x).blu = s.blu := rfl
@[simp] theorem State.setPending_ptu (s : State) (x : List Instr) : (s.setPending x).ptu = s.ptu := rfl
@[simp] theorem State.setPending_chu (s : State) (x : List Instr) : (s.setPending x).chu = s.chu := rfl
@[simp] theorem State.setPending_etu (s : State) (x : List Instr) : (s.setPending x).etu = s.etu := rfl
@[simp] theorem State.setPending_tma (s : State) (x : List Instr) : (s.setPending x).tma = s.tma := rfl
@[simp] theorem State.setPending_pcu (s : State) (x : List Instr) : (s.setPending x).pcu = s.pcu := rfl
@[simp] theorem State.setPending_ple (s : State) (x : List Instr) : (s.setPending x).ple = s.ple := rfl
@[simp] theorem State.setPending_acr (s : State) (x : List Instr) : (s.setPending x).acr = s.acr := rfl
@[simp] theorem State.setPending_pif (s : State) (x : List Instr) : (s.setPending x).pif = s.pif := rfl
@[simp] theorem State.setPending_pfl (s : State) (x : List Instr) : (s.setPending x).pfl = s.pfl := rfl
@[simp] theorem State.setPending_clock (s : State) (x : List Instr) : (s.setPending x).clock = s.clock := rfl
@[simp] theorem State.setPending_pending (s : State) (x : List Instr) : (s.setPending x).pending = x := rfl
@[simp] theorem State.setPending_reports (s : State) (x : List Instr) : (s.setPending x).reports = s.reports := rfl
@[simp] theorem State.setPending_draws (s : State) (x : List Instr) : (s.setPending x).draws = s.draws := rfl

@[simp] theorem State.setReports_blu (s : State) (x : List Report) : (s.setReports x).blu = s.blu := rfl
@[simp] theorem State.setReports_ptu (s : State) (x : List Report) : (s.setReports x).ptu = s.ptu := rfl
@[simp] theorem State.setReports_chu (s : State) (x : List Report) : (s.setReports x).chu = s.chu := rfl
@[simp] theorem State.setReports_etu (s : State) (x : List Report) : (s.setReports x).etu = s.etu := rfl
@[simp] theorem State.setReports_tma (s : State) (x : List Report) : (s.setReports x).tma = s.tma := rfl
@[simp] theorem State.setReports_pcu (s : State) (x : List Report) : (s.setReports x).pcu = s.pcu := rfl
@[simp] theorem State.setReports_ple (s : State) (x : List Report) : (s.setReports x).ple = s.ple := rfl
@[simp] theorem State.setReports_acr (s : State) (x : List Report) : (s.setReports x).acr = s.acr := rfl
@[simp] theorem State.setReports_pif (s : State) (x : List Report) : (s.setReports x).pif = s.pif := rfl
@[simp] theorem State.setReports_pfl (s : State) (x : List Report) : (s.setReports x).pfl = s.pfl := rfl
@[simp] theorem State.setReports_clock (s : State) (x : List Report) : (s.setReports x).clock = s.clock := rfl
@[simp] theorem State.setReports_pending (s : State) (x : List Report) : (s.setReports x).pending = s.pending := rfl
@[simp] theorem State.setReports_reports (s : State) (x : List Report) : (s.setReports x).reports = x := rfl
@[simp] theorem State.setReports_draws (s : State) (x : List Report) : (s.setReports x).draws = s.draws := rfl

@[simp] theorem State.setDraws_blu (s : State) (x : Nat) : (s.setDraws x).blu = s.blu := rfl
@[simp] theorem State.setDraws_ptu (s : State) (x : Nat) : (s.setDraws x).ptu = s.ptu := rfl
@[simp] theorem State.setDraws_chu (s : State) (x : Nat) : (s.setDraws x).chu = s.chu := rfl
@[simp] theorem State.setDraws_etu (s : State) (x : Nat) : (s.setDraws x).etu = s.etu := rfl
@[simp] theorem State.setDraws_tma (s : State) (x : Nat) : (s.setDraws x).tma = s.tma := rfl
@[simp] theorem State.setDraws_pcu (s : State) (x : Nat) : (s.setDraws x).pcu = s.pcu := rfl
@[simp] theorem State.setDraws_ple (s : State) (x : Nat) : (s.setDraws x).ple = s.ple := rfl
@[simp] theorem State.setDraws_acr (s : State) (x : Nat) : (s.setDraws x).acr = s.acr := rfl
@[simp] theorem State.setDraws_pif (s : State) (x : Nat) : (s.setDraws x).pif = s.pif := rfl
@[simp] theorem State.setDraws_pfl (s : State) (x : Nat) : (s.setDraws x).pfl = s.pfl := rfl
@[simp] theorem State.setDraws_clock (s : State) (x : Nat) : (s.setDraws x).clock = s.clock := rfl
@[simp] theorem State.setDraws_pending (s : State) (x : Nat) : (s.setDraws x).pending = s.pending := rfl
@[simp] theorem State.setDraws_reports (s : State) (x : Nat) : (s.setDraws x).reports = s.reports := rfl
@[simp] theorem State.setDraws_draws (s : State) (x : Nat) : (s.setDraws x).draws = x := rfl

/-! ## One port's record -/

@[simp] theorem State.setPort_blu (s : State) (p : Port) (x : PortRec) : (s.setPort p x).blu = s.blu := rfl
@[simp] theorem State.setPort_ptu (s : State) (p : Port) (x : PortRec) : (s.setPort p x).ptu = s.ptu := rfl
@[simp] theorem State.setPort_chu (s : State) (p : Port) (x : PortRec) : (s.setPort p x).chu = s.chu := rfl
@[simp] theorem State.setPort_etu (s : State) (p : Port) (x : PortRec) : (s.setPort p x).etu = s.etu := rfl
@[simp] theorem State.setPort_tma (s : State) (p : Port) (x : PortRec) : (s.setPort p x).tma = s.tma := rfl
@[simp] theorem State.setPort_pcu (s : State) (p : Port) (x : PortRec) : (s.setPort p x).pcu = s.pcu := rfl
@[simp] theorem State.setPort_ple (s : State) (p : Port) (x : PortRec) : (s.setPort p x).ple = s.ple := rfl
@[simp] theorem State.setPort_acr (s : State) (p : Port) (x : PortRec) : (s.setPort p x).acr = s.acr := rfl
@[simp] theorem State.setPort_pfl (s : State) (p : Port) (x : PortRec) : (s.setPort p x).pfl = s.pfl := rfl
@[simp] theorem State.setPort_clock (s : State) (p : Port) (x : PortRec) : (s.setPort p x).clock = s.clock := rfl
@[simp] theorem State.setPort_pending (s : State) (p : Port) (x : PortRec) : (s.setPort p x).pending = s.pending := rfl
@[simp] theorem State.setPort_reports (s : State) (p : Port) (x : PortRec) : (s.setPort p x).reports = s.reports := rfl
@[simp] theorem State.setPort_draws (s : State) (p : Port) (x : PortRec) : (s.setPort p x).draws = s.draws := rfl

@[simp] theorem State.port_setPort_same (s : State) (p : Port) (x : PortRec) : (s.setPort p x).port p = x := by
  cases p <;> rfl

@[simp] theorem State.port_setPort_unit (s : State) (x : PortRec) :
    (s.setPort .installer x).port .unit = s.port .unit := rfl

@[simp] theorem State.port_setPort_installer (s : State) (x : PortRec) :
    (s.setPort .unit x).port .installer = s.port .installer := rfl

@[simp] theorem State.setPort_present (s : State) (p : Port) (x : PortRec) :
    (s.setPort p x).pif.present = s.pif.present := rfl

@[simp] theorem State.setPort_resetDue (s : State) (p : Port) (x : PortRec) :
    (s.setPort p x).pif.resetDue = s.pif.resetDue := rfl

/-! ## One branch, channel or polarization -/

@[simp] theorem PerBranch.get_set_same {α : Type} (x : PerBranch α) (b : Branch) (v : α) : (x.set b v).get b = v := by
  cases b <;> rfl

theorem PerBranch.get_set_other {α : Type} (x : PerBranch α) (b c : Branch) (v : α) (h : c ≠ b) :
    (x.set b v).get c = x.get c := by
  cases b <;> cases c <;> first | rfl | exact absurd rfl h

@[simp] theorem PerBranch.get_all {α : Type} (v : α) (b : Branch) : (PerBranch.all v).get b = v := by cases b <;> rfl

@[simp] theorem PerBranch.get_map {α β : Type} (g : α → β) (x : PerBranch α) (b : Branch) :
    (x.map g).get b = g (x.get b) := by cases b <;> rfl

@[simp] theorem PerPol.get_set_same {α : Type} (x : PerPol α) (p : Pol) (v : α) : (x.set p v).get p = v := by
  cases p <;> rfl

theorem PerPol.get_set_other {α : Type} (x : PerPol α) (p q : Pol) (v : α) (h : q ≠ p) :
    (x.set p v).get q = x.get q := by
  cases p <;> cases q <;> first | rfl | exact absurd rfl h

@[simp] theorem PerPol.get_all {α : Type} (v : α) (p : Pol) : (PerPol.all v).get p = v := by cases p <;> rfl

@[simp] theorem PerPol.get_map {α β : Type} (g : α → β) (x : PerPol α) (p : Pol) : (x.map g).get p = g (x.get p) := by
  cases p <;> rfl

@[simp] theorem PerPort.get_set_same {α : Type} (x : PerPort α) (p : Port) (v : α) : (x.set p v).get p = v := by
  cases p <;> rfl

theorem PerPort.get_set_other {α : Type} (x : PerPort α) (p q : Port) (v : α) (h : q ≠ p) :
    (x.set p v).get q = x.get q := by
  cases p <;> cases q <;> first | rfl | exact absurd rfl h

theorem PerChannel.cases {P : Fin 8 → Prop} (h0 : P 0) (h1 : P 1) (h2 : P 2) (h3 : P 3) (h4 : P 4) (h5 : P 5) (h6 : P 6)
    (h7 : P 7) : ∀ c, P c
  | 0 => h0
  | 1 => h1
  | 2 => h2
  | 3 => h3
  | 4 => h4
  | 5 => h5
  | 6 => h6
  | 7 => h7

@[simp] theorem PerChannel.get_set_same {α : Type} (x : PerChannel α) (c : Fin 8) (v : α) : (x.set c v).get c = v := by
  refine PerChannel.cases (P := fun c => (x.set c v).get c = v) ?_ ?_ ?_ ?_ ?_ ?_ ?_ ?_ c <;> rfl

theorem PerChannel.get_set_other {α : Type} (x : PerChannel α) (c d : Fin 8) (v : α) (h : d ≠ c) :
    (x.set c v).get d = x.get d := by
  revert h
  refine PerChannel.cases (P := fun c => d ≠ c → (x.set c v).get d = x.get d) ?_ ?_ ?_ ?_ ?_ ?_ ?_ ?_ c <;>
    refine PerChannel.cases (P := fun d => d ≠ _ → (x.set _ v).get d = x.get d) ?_ ?_ ?_ ?_ ?_ ?_ ?_ ?_ d <;>
    intro h <;> first | rfl | exact absurd rfl h

@[simp] theorem PerChannel.get_all {α : Type} (v : α) (c : Fin 8) : (PerChannel.all v).get c = v := by
  refine PerChannel.cases (P := fun c => (PerChannel.all v).get c = v) ?_ ?_ ?_ ?_ ?_ ?_ ?_ ?_ c <;> rfl

@[simp] theorem PerChannel.get_map {α β : Type} (g : α → β) (x : PerChannel α) (c : Fin 8) :
    (x.map g).get c = g (x.get c) := by
  refine PerChannel.cases (P := fun c => (x.map g).get c = g (x.get c)) ?_ ?_ ?_ ?_ ?_ ?_ ?_ ?_ c <;> rfl

end Sys2Proof.Machine
end

