-- ==== Sys2Proof/Laws/Ops.lean ====
section
/-! SUPPORT. What the shared operations of Machine/Ops.lean can do: a notice, a response and a delivery change the ports
alone, a served request answers what its rule answers, and a plan at rest does not react. -/

namespace Sys2Proof.Machine

/-! ## Ports -/

theorem State.kick_eq (s : State) : s.kick = s ∨ s.kick = s.setPort .installer (s.port .installer).kick := by
  unfold State.kick; split
  · exact .inr rfl
  · exact .inl rfl

@[simp] theorem State.kick_blu (s : State) : s.kick.blu = s.blu := by
  rcases s.kick_eq with h | h <;> rw [h]; rfl

@[simp] theorem State.kick_ptu (s : State) : s.kick.ptu = s.ptu := by
  rcases s.kick_eq with h | h <;> rw [h]; rfl

@[simp] theorem State.kick_chu (s : State) : s.kick.chu = s.chu := by
  rcases s.kick_eq with h | h <;> rw [h]; rfl

@[simp] theorem State.kick_etu (s : State) : s.kick.etu = s.etu := by
  rcases s.kick_eq with h | h <;> rw [h]; rfl

@[simp] theorem State.kick_tma (s : State) : s.kick.tma = s.tma := by
  rcases s.kick_eq with h | h <;> rw [h]; rfl

@[simp] theorem State.kick_pcu (s : State) : s.kick.pcu = s.pcu := by
  rcases s.kick_eq with h | h <;> rw [h]; rfl

@[simp] theorem State.kick_ple (s : State) : s.kick.ple = s.ple := by
  rcases s.kick_eq with h | h <;> rw [h]; rfl

@[simp] theorem State.kick_acr (s : State) : s.kick.acr = s.acr := by
  rcases s.kick_eq with h | h <;> rw [h]; rfl

@[simp] theorem State.kick_pfl (s : State) : s.kick.pfl = s.pfl := by
  rcases s.kick_eq with h | h <;> rw [h]; rfl

@[simp] theorem State.kick_clock (s : State) : s.kick.clock = s.clock := by
  rcases s.kick_eq with h | h <;> rw [h]; rfl

@[simp] theorem State.kick_pending (s : State) : s.kick.pending = s.pending := by
  rcases s.kick_eq with h | h <;> rw [h]; rfl

@[simp] theorem State.kick_reports (s : State) : s.kick.reports = s.reports := by
  rcases s.kick_eq with h | h <;> rw [h]; rfl

@[simp] theorem State.kick_draws (s : State) : s.kick.draws = s.draws := by
  rcases s.kick_eq with h | h <;> rw [h]; rfl

@[simp] theorem State.post_blu (s : State) (k : NoticeKind) (p : List Field) : (s.post k p).blu = s.blu := by
  simp [State.post]

@[simp] theorem State.post_ptu (s : State) (k : NoticeKind) (p : List Field) : (s.post k p).ptu = s.ptu := by
  simp [State.post]

@[simp] theorem State.post_chu (s : State) (k : NoticeKind) (p : List Field) : (s.post k p).chu = s.chu := by
  simp [State.post]

@[simp] theorem State.post_etu (s : State) (k : NoticeKind) (p : List Field) : (s.post k p).etu = s.etu := by
  simp [State.post]

@[simp] theorem State.post_tma (s : State) (k : NoticeKind) (p : List Field) : (s.post k p).tma = s.tma := by
  simp [State.post]

@[simp] theorem State.post_pcu (s : State) (k : NoticeKind) (p : List Field) : (s.post k p).pcu = s.pcu := by
  simp [State.post]

@[simp] theorem State.post_ple (s : State) (k : NoticeKind) (p : List Field) : (s.post k p).ple = s.ple := by
  simp [State.post]

@[simp] theorem State.post_acr (s : State) (k : NoticeKind) (p : List Field) : (s.post k p).acr = s.acr := by
  simp [State.post]

@[simp] theorem State.post_pfl (s : State) (k : NoticeKind) (p : List Field) : (s.post k p).pfl = s.pfl := by
  simp [State.post]

@[simp] theorem State.post_clock (s : State) (k : NoticeKind) (p : List Field) : (s.post k p).clock = s.clock := by
  simp [State.post]

@[simp] theorem State.post_pending (s : State) (k : NoticeKind) (p : List Field) : (s.post k p).pending = s.pending := by
  simp [State.post]

@[simp] theorem State.post_reports (s : State) (k : NoticeKind) (p : List Field) : (s.post k p).reports = s.reports := by
  simp [State.post]

@[simp] theorem State.post_draws (s : State) (k : NoticeKind) (p : List Field) : (s.post k p).draws = s.draws := by
  simp [State.post]

@[simp] theorem State.answer_blu (s : State) (p : Port) (c : Nat) (r : Reply) : (s.answer p c r).blu = s.blu := by
  cases p <;> simp [State.answer]

@[simp] theorem State.answer_ptu (s : State) (p : Port) (c : Nat) (r : Reply) : (s.answer p c r).ptu = s.ptu := by
  cases p <;> simp [State.answer]

@[simp] theorem State.answer_chu (s : State) (p : Port) (c : Nat) (r : Reply) : (s.answer p c r).chu = s.chu := by
  cases p <;> simp [State.answer]

@[simp] theorem State.answer_etu (s : State) (p : Port) (c : Nat) (r : Reply) : (s.answer p c r).etu = s.etu := by
  cases p <;> simp [State.answer]

@[simp] theorem State.answer_tma (s : State) (p : Port) (c : Nat) (r : Reply) : (s.answer p c r).tma = s.tma := by
  cases p <;> simp [State.answer]

@[simp] theorem State.answer_pcu (s : State) (p : Port) (c : Nat) (r : Reply) : (s.answer p c r).pcu = s.pcu := by
  cases p <;> simp [State.answer]

@[simp] theorem State.answer_ple (s : State) (p : Port) (c : Nat) (r : Reply) : (s.answer p c r).ple = s.ple := by
  cases p <;> simp [State.answer]

@[simp] theorem State.answer_acr (s : State) (p : Port) (c : Nat) (r : Reply) : (s.answer p c r).acr = s.acr := by
  cases p <;> simp [State.answer]

@[simp] theorem State.answer_pfl (s : State) (p : Port) (c : Nat) (r : Reply) : (s.answer p c r).pfl = s.pfl := by
  cases p <;> simp [State.answer]

@[simp] theorem State.answer_clock (s : State) (p : Port) (c : Nat) (r : Reply) : (s.answer p c r).clock = s.clock := by
  cases p <;> simp [State.answer]

@[simp] theorem State.answer_pending (s : State) (p : Port) (c : Nat) (r : Reply) : (s.answer p c r).pending = s.pending := by
  cases p <;> simp [State.answer]

@[simp] theorem State.answer_reports (s : State) (p : Port) (c : Nat) (r : Reply) : (s.answer p c r).reports = s.reports := by
  cases p <;> simp [State.answer]

@[simp] theorem State.answer_draws (s : State) (p : Port) (c : Nat) (r : Reply) : (s.answer p c r).draws = s.draws := by
  cases p <;> simp [State.answer]

@[simp] theorem State.deliver_blu (s : State) (p : Port) (k : FrameKind) (f : OutFrame) :
    (s.deliver p k f).blu = s.blu := by
  cases p <;> simp [State.deliver]

@[simp] theorem State.deliver_ptu (s : State) (p : Port) (k : FrameKind) (f : OutFrame) :
    (s.deliver p k f).ptu = s.ptu := by
  cases p <;> simp [State.deliver]

@[simp] theorem State.deliver_chu (s : State) (p : Port) (k : FrameKind) (f : OutFrame) :
    (s.deliver p k f).chu = s.chu := by
  cases p <;> simp [State.deliver]

@[simp] theorem State.deliver_etu (s : State) (p : Port) (k : FrameKind) (f : OutFrame) :
    (s.deliver p k f).etu = s.etu := by
  cases p <;> simp [State.deliver]

@[simp] theorem State.deliver_tma (s : State) (p : Port) (k : FrameKind) (f : OutFrame) :
    (s.deliver p k f).tma = s.tma := by
  cases p <;> simp [State.deliver]

@[simp] theorem State.deliver_pcu (s : State) (p : Port) (k : FrameKind) (f : OutFrame) :
    (s.deliver p k f).pcu = s.pcu := by
  cases p <;> simp [State.deliver]

@[simp] theorem State.deliver_ple (s : State) (p : Port) (k : FrameKind) (f : OutFrame) :
    (s.deliver p k f).ple = s.ple := by
  cases p <;> simp [State.deliver]

@[simp] theorem State.deliver_acr (s : State) (p : Port) (k : FrameKind) (f : OutFrame) :
    (s.deliver p k f).acr = s.acr := by
  cases p <;> simp [State.deliver]

@[simp] theorem State.deliver_pfl (s : State) (p : Port) (k : FrameKind) (f : OutFrame) :
    (s.deliver p k f).pfl = s.pfl := by
  cases p <;> simp [State.deliver]

@[simp] theorem State.deliver_clock (s : State) (p : Port) (k : FrameKind) (f : OutFrame) :
    (s.deliver p k f).clock = s.clock := by
  cases p <;> simp [State.deliver]

@[simp] theorem State.deliver_pending (s : State) (p : Port) (k : FrameKind) (f : OutFrame) :
    (s.deliver p k f).pending = s.pending := by
  cases p <;> simp [State.deliver]

@[simp] theorem State.deliver_reports (s : State) (p : Port) (k : FrameKind) (f : OutFrame) :
    (s.deliver p k f).reports = s.reports := by
  cases p <;> simp [State.deliver]

@[simp] theorem State.deliver_draws (s : State) (p : Port) (k : FrameKind) (f : OutFrame) :
    (s.deliver p k f).draws = s.draws := by
  cases p <;> simp [State.deliver]

@[simp] theorem State.endResync_blu (s : State) (p : Port) : (s.endResync p).blu = s.blu := by
  cases p <;> rfl

@[simp] theorem State.endResync_ptu (s : State) (p : Port) : (s.endResync p).ptu = s.ptu := by
  cases p <;> rfl

@[simp] theorem State.endResync_chu (s : State) (p : Port) : (s.endResync p).chu = s.chu := by
  cases p <;> rfl

@[simp] theorem State.endResync_etu (s : State) (p : Port) : (s.endResync p).etu = s.etu := by
  cases p <;> rfl

@[simp] theorem State.endResync_tma (s : State) (p : Port) : (s.endResync p).tma = s.tma := by
  cases p <;> rfl

@[simp] theorem State.endResync_pcu (s : State) (p : Port) : (s.endResync p).pcu = s.pcu := by
  cases p <;> rfl

@[simp] theorem State.endResync_ple (s : State) (p : Port) : (s.endResync p).ple = s.ple := by
  cases p <;> rfl

@[simp] theorem State.endResync_acr (s : State) (p : Port) : (s.endResync p).acr = s.acr := by
  cases p <;> rfl

@[simp] theorem State.endResync_pfl (s : State) (p : Port) : (s.endResync p).pfl = s.pfl := by
  cases p <;> rfl

@[simp] theorem State.endResync_clock (s : State) (p : Port) : (s.endResync p).clock = s.clock := by
  cases p <;> rfl

@[simp] theorem State.endResync_pending (s : State) (p : Port) : (s.endResync p).pending = s.pending := by
  cases p <;> rfl

@[simp] theorem State.endResync_reports (s : State) (p : Port) : (s.endResync p).reports = s.reports := by
  cases p <;> rfl

@[simp] theorem State.endResync_draws (s : State) (p : Port) : (s.endResync p).draws = s.draws := by
  cases p <;> rfl

@[simp] theorem State.startResync_blu (s : State) (p : Port) : (s.startResync p).blu = s.blu := by
  cases p
  · simp only [State.startResync]; split <;> rfl
  · rfl

@[simp] theorem State.startResync_ptu (s : State) (p : Port) : (s.startResync p).ptu = s.ptu := by
  cases p
  · simp only [State.startResync]; split <;> rfl
  · rfl

@[simp] theorem State.startResync_chu (s : State) (p : Port) : (s.startResync p).chu = s.chu := by
  cases p
  · simp only [State.startResync]; split <;> rfl
  · rfl

@[simp] theorem State.startResync_etu (s : State) (p : Port) : (s.startResync p).etu = s.etu := by
  cases p
  · simp only [State.startResync]; split <;> rfl
  · rfl

@[simp] theorem State.startResync_tma (s : State) (p : Port) : (s.startResync p).tma = s.tma := by
  cases p
  · simp only [State.startResync]; split <;> rfl
  · rfl

@[simp] theorem State.startResync_pcu (s : State) (p : Port) : (s.startResync p).pcu = s.pcu := by
  cases p
  · simp only [State.startResync]; split <;> rfl
  · rfl

@[simp] theorem State.startResync_ple (s : State) (p : Port) : (s.startResync p).ple = s.ple := by
  cases p
  · simp only [State.startResync]; split <;> rfl
  · rfl

@[simp] theorem State.startResync_acr (s : State) (p : Port) : (s.startResync p).acr = s.acr := by
  cases p
  · simp only [State.startResync]; split <;> rfl
  · rfl

@[simp] theorem State.startResync_pfl (s : State) (p : Port) : (s.startResync p).pfl = s.pfl := by
  cases p
  · simp only [State.startResync]; split <;> rfl
  · rfl

@[simp] theorem State.startResync_clock (s : State) (p : Port) : (s.startResync p).clock = s.clock := by
  cases p
  · simp only [State.startResync]; split <;> rfl
  · rfl

@[simp] theorem State.startResync_pending (s : State) (p : Port) : (s.startResync p).pending = s.pending := by
  cases p
  · simp only [State.startResync]; split <;> rfl
  · rfl

@[simp] theorem State.startResync_reports (s : State) (p : Port) : (s.startResync p).reports = s.reports := by
  cases p
  · simp only [State.startResync]; split <;> rfl
  · rfl

@[simp] theorem State.startResync_draws (s : State) (p : Port) : (s.startResync p).draws = s.draws := by
  cases p
  · simp only [State.startResync]; split <;> rfl
  · rfl

/-- What a send begun or not leaves of a port's record. -/
theorem PortRec.kick_content (r : PortRec) :
    r.kick.inService = r.inService ∧ r.kick.response = r.response ∧ r.kick.refusal = r.refusal ∧
      r.kick.queue = r.queue ∧ r.kick.overflow = r.overflow ∧ r.kick.mask = r.mask := by
  unfold PortRec.kick
  split
  · simp
  · split <;> simp [PortRec.begin]

/-- What a notice leaves of a port's record. -/
theorem PortRec.offer_content (r : PortRec) (n : Notice) :
    (r.offer n).inService = r.inService ∧ (r.offer n).response = r.response ∧ (r.offer n).refusal = r.refusal ∧
      (r.offer n).mask = r.mask := by
  unfold PortRec.offer PortRec.enqueue
  split
  · split <;> simp
  · simp

/-- The unprompted sending of the installer port leaves what the two ports hold. -/
theorem State.kick_content (s : State) (p : Port) :
    (s.kick.port p).inService = (s.port p).inService ∧ (s.kick.port p).response = (s.port p).response ∧
      (s.kick.port p).refusal = (s.port p).refusal ∧ (s.kick.port p).queue = (s.port p).queue ∧
      (s.kick.port p).overflow = (s.port p).overflow ∧ (s.kick.port p).mask = (s.port p).mask := by
  rcases s.kick_eq with h | h
  · rw [h]; simp
  · rw [h]; cases p
    · simpa using PortRec.kick_content _
    · simp

/-- A notice leaves each port's service, response, refusal and mask. -/
theorem State.post_content (s : State) (k : NoticeKind) (fs : List Field) (p : Port) :
    ((s.post k fs).port p).inService = (s.port p).inService ∧
      ((s.post k fs).port p).response = (s.port p).response ∧
      ((s.post k fs).port p).refusal = (s.port p).refusal ∧ ((s.post k fs).port p).mask = (s.port p).mask := by
  unfold State.post
  obtain ⟨h1, h2, h3, -, -, h6⟩ := State.kick_content
    ((s.setPort .unit ((s.port .unit).offer { kind := k, payload := fs })).setPort .installer
      ((s.port .installer).offer { kind := k, payload := fs })) p
  rw [h1, h2, h3, h6]
  cases p
  · simpa using PortRec.offer_content _ _
  · simpa using PortRec.offer_content _ _

/-- A queue of at most 16 notices stays one (R174, R181). -/
theorem PortRec.offer_queue (r : PortRec) (n : Notice) (h : r.queue.length ≤ 16) : (r.offer n).queue.length ≤ 16 := by
  unfold PortRec.offer PortRec.enqueue
  split
  · split
    · simp; omega
    · have hd : ∀ b (q : List Notice), 16 ≤ q.length → q.length ≤ 16 → (dropOldest b q).length = 15 := by
        intro b q h1 h2
        match q with
        | [] => simp at h1
        | [_] => simp at h1
        | a :: c :: rest => cases b <;> simp [dropOldest] at * <;> omega
      have := hd r.headBegun r.queue (by omega) h
      simp [this]
  · exact h

/-- Posting keeps the queue law. -/
theorem State.post_queueLaw (s : State) (k : NoticeKind) (fs : List Field) (h : s.QueueLaw) :
    (s.post k fs).QueueLaw := by
  obtain ⟨hu, hi⟩ := h
  unfold State.QueueLaw State.post
  rw [(State.kick_content _ .unit).2.2.2.1, (State.kick_content _ .installer).2.2.2.1]
  simp only [State.port_setPort_same, State.port_setPort_unit]
  exact ⟨PortRec.offer_queue _ _ hu, PortRec.offer_queue _ _ hi⟩

/-! ## Requests -/

/-- A response becomes the response waiting, and its request is in service (R177). -/
theorem State.answer_content (s : State) (p : Port) (code : Nat) (r : Reply) :
    ((s.answer p code r).port p).inService = some code ∧ ((s.answer p code r).port p).response = some (r.response code) ∧
      ((s.answer p code r).port p).queue = (s.port p).queue ∧ ((s.answer p code r).port p).mask = (s.port p).mask := by
  cases p
  · simp only [State.answer]
    obtain ⟨h1, h2, -, h4, -, h6⟩ := State.kick_content
      (s.setPort .installer { s.port .installer with inService := some code, response := some (r.response code) }) .installer
    refine ⟨h1.trans ?_, h2.trans ?_, h4.trans ?_, h6.trans ?_⟩ <;> simp
  · simp [State.answer, Reply.response]

/-- A request that passes R177's checks 1 to 3 answers what its rule answers. -/
theorem State.arrive_served (s : State) (f : ReqFrame) (code : Nat) (fits : Bool) (act : State → State × Reply)
    (h1 : s.disregards f = false) (h2 : (s.port f.port).inService = none) (h3 : s.pfl.status ≠ .reading)
    (h4 : badLength f = false) (h5 : fits = true) :
    s.arrive f code fits act =
      (act (s.endResync f.port)).1.answer f.port code (act (s.endResync f.port)).2 := by
  have h6 : ((s.endResync f.port).port f.port).inService = none := by
    rw [← h2]; cases hp : f.port <;> rfl
  unfold State.arrive
  simp [h1, h6, h3, h4, h5]

theorem State.serve_served {s : State} {f : ReqFrame} (h : s.Serves f) (code : Nat) (act : State → State × Reply) :
    s.serve f code act = (act (s.endResync f.port)).1.answer f.port code (act (s.endResync f.port)).2 :=
  s.arrive_served f code f.fits act h.1 h.2.1 h.2.2.1 h.2.2.2.1 h.2.2.2.2.1

theorem State.serveUnit_served {s : State} {f : ReqFrame} (h : s.ServesUnit f) (code : Nat) (act : State → State × Reply) :
    s.serveUnit f code act = (act s).1.answer .unit code (act s).2 := by
  obtain ⟨⟨h1, h2, h3, h4, h5, -⟩, hp⟩ := h
  unfold State.serveUnit
  rw [s.arrive_served f code f.fits _ h1 h2 h3 h4 h5, hp]
  rfl

theorem unlessClosed_admits {s : State} {f : ReqFrame} (h : s.Admits f) (act : State → State × Reply) :
    unlessClosed f act (s.endResync f.port) = act (s.endResync f.port) := by
  obtain ⟨⟨-, -, -, -, -, hc⟩, hcl⟩ := h
  have : (s.endResync f.port).closedTo f = false := by rw [← hcl]; simp [State.closedTo]
  simp [unlessClosed, this, hc]

theorem ifCoded_coded {f : ReqFrame} (h : f.coded = true) (act : State → State × Reply) (s : State) :
    ifCoded f act s = act s := by simp [ifCoded, h]

/-! ## The reaction of a plan at rest -/

theorem State.drive_settled (n : Nat) (s : State) (h : s.ple.todo = none) : State.drive n s = s := by
  cases n with
  | zero => rfl
  | succ n => simp [State.drive, h]

/-- No report reaches a plan that is at rest. -/
theorem State.heed_atRest (s : State) (r : Report) (h : s.ple.state.underWay = false) : s.heed r = s := by
  unfold State.heed
  split <;> simp_all [PlanState.underWay]

theorem reactTo_atRest (rs : List Report) (s : State) (h : s.ple.state.underWay = false) (ht : s.ple.todo = none) :
    reactTo rs s = s := by
  have hstep : ∀ r, State.drive driveBound (s.hush fun s => s.heed r) = s := by
    intro r
    have : (s.hush fun s => s.heed r) = s := by simp only [State.hush, s.heed_atRest r h]; rfl
    rw [this, State.drive_settled _ _ ht]
  induction rs with
  | nil => rfl
  | cons r rs ih => simp only [reactTo, List.foldl_cons, hstep] at ih ⊢; exact ih

/-- While the plan is at rest, the end of a command only clears the reports. -/
theorem react_atRest (s : State) (h : s.ple.state.underWay = false) (ht : s.ple.todo = none) :
    react s = s.setReports [] := by
  unfold react
  rw [State.drive_settled _ _ ht]
  show (reactTo s.reports (s.setReports [])).setReports [] = _
  rw [reactTo_atRest _ _ (by simpa using h) (by simpa using ht)]
  rfl

end Sys2Proof.Machine
end

