-- ==== Sys2Proof/Laws/Requests.lean ====
section
/-! SUPPORT. What a served request leaves: the state its rule leaves, answered (R177, R178). One lemma for a request that
either port may issue, one for a request of the unit port; a prover cites these and never unfolds `arrive`. -/

namespace Sys2Proof.Machine

/-- The unprompted sending of the installer port changes nothing but the ports. -/
theorem State.kick_setPif (s : State) : s.kick = s.setPif s.kick.pif := by
  rcases s.kick_eq with h | h <;> rw [h] <;> rfl

theorem State.kick_flags (s : State) :
    s.kick.pif.present = s.pif.present ∧ s.kick.pif.resync = s.pif.resync ∧ s.kick.pif.resetDue = s.pif.resetDue := by
  rcases s.kick_eq with h | h <;> rw [h] <;> exact ⟨rfl, rfl, rfl⟩

theorem State.kick_unit (s : State) : s.kick.port .unit = s.port .unit := by
  rcases s.kick_eq with h | h <;> rw [h] <;> rfl

/-- What makes a state an answered one holds once the installer port has begun to send. -/
theorem State.Answers.kick {u v : State} {code : Nat} {r : Reply} (h : u.Answers v .installer code r) :
    u.Answers v.kick .installer code r := by
  obtain ⟨h1, h2, h3, h4, h5, h6, h7, h8⟩ := h
  obtain ⟨i1, i2, i3, i4, i5, i6⟩ := State.kick_content v .installer
  obtain ⟨f1, f2, f3⟩ := State.kick_flags v
  have hu := State.kick_unit v
  refine ⟨?_, i1.trans h2, i2.trans h3, ?_, ?_, f1.trans h6, f3.trans h7, f2.trans h8⟩
  · rw [State.kick_setPif]
    show v.setPif v.kick.pif = u.setPif v.kick.pif
    rw [h1]; rfl
  · intro q; cases q
    · have := h4 .installer
      exact ⟨i3.trans this.1, i4.trans this.2.1, i5.trans this.2.2.1, i6.trans this.2.2.2⟩
    · rw [hu]; exact h4 .unit
  · intro q hq; cases q
    · exact absurd rfl hq
    · exact hu.trans (h5 .unit hq)

/-- A response to a request whose frame the receiver has taken up (R177). -/
theorem State.answers_answer (u : State) (p : Port) (code : Nat) (r : Reply) :
    u.Answers ((u.endResync p).answer p code r) p code r := by
  cases p
  · apply State.Answers.kick
    refine ⟨rfl, rfl, rfl, ?_, ?_, rfl, rfl, rfl⟩
    · intro q; cases q <;> exact ⟨rfl, rfl, rfl, rfl⟩
    · intro q hq; cases q
      · exact absurd rfl hq
      · rfl
  · refine ⟨rfl, rfl, rfl, ?_, ?_, rfl, rfl, rfl⟩
    · intro q; cases q <;> exact ⟨rfl, rfl, rfl, rfl⟩
    · intro q hq; cases q
      · rfl
      · exact absurd rfl hq

/-- A request that either port may issue answers what its rule answers. -/
theorem State.serve_answers {s u : State} {f : ReqFrame} {code : Nat} {act : State → State × Reply} {r : Reply}
    (h : s.Serves f) (hact : act (s.endResync f.port) = (u.endResync f.port, r)) :
    u.Answers (s.serve f code act) f.port code r := by
  rw [State.serve_served h, hact]; exact State.answers_answer u f.port code r

/-- A request of the unit port answers what its rule answers. -/
theorem State.serveUnit_answers {s u : State} {f : ReqFrame} {code : Nat} {act : State → State × Reply} {r : Reply}
    (h : s.ServesUnit f) (hact : act s = (u, r)) : u.Answers (s.serveUnit f code act) .unit code r := by
  rw [State.serveUnit_served h, hact]; exact State.answers_answer u .unit code r

/-- A request that is refused changes nothing but its port. -/
theorem State.serve_refused {s : State} {f : ReqFrame} {code : Nat} {act : State → State × Reply} {st : Status}
    (h : s.Serves f) (hact : act (s.endResync f.port) = refuse st (s.endResync f.port)) :
    s.Answers (s.serve f code act) f.port code { status := st } := s.serve_answers h hact

/-- Answers is Replies with the queues as they were. -/
theorem State.Answers.replies {u t : State} {p : Port} {code : Nat} {r : Reply} (h : u.Answers t p code r) :
    u.Replies t p code r := by
  obtain ⟨h1, h2, h3, h4, h5, h6, h7, h8⟩ := h
  exact ⟨h1, h2, h3, fun q => ⟨(h4 q).1, (h4 q).2.2.2⟩, fun q hq => by rw [h5 q hq]; exact ⟨rfl, rfl⟩, h6, h7, h8⟩

/-! ## Requests whose effect posts notices -/

/-- A notice changes nothing but the ports' queues and what is being sent. -/
theorem State.post_setPif (s : State) (k : NoticeKind) (fs : List Field) : s.post k fs = s.setPif (s.post k fs).pif := by
  unfold State.post; rw [State.kick_setPif]; rfl

theorem State.post_quiet (s : State) (k : NoticeKind) (fs : List Field) : s.QuietPorts (s.post k fs) := by
  obtain ⟨h1, h2, h3⟩ := State.kick_flags
    ((s.setPort .unit ((s.port .unit).offer { kind := k, payload := fs })).setPort .installer
      ((s.port .installer).offer { kind := k, payload := fs }))
  exact ⟨h1, h2, h3, s.post_content k fs⟩

theorem State.kick_endResync (s : State) (p : Port) : (s.endResync p).kick = s.kick.endResync p := by
  cases p
  · unfold State.kick
    split <;> rename_i h
    · rw [if_pos (by exact h)]; rfl
    · rw [if_neg (by exact h)]
  · rfl

/-- Posting does not look at what the receiver disregards. -/
theorem State.post_endResync (s : State) (p : Port) (k : NoticeKind) (fs : List Field) :
    (s.endResync p).post k fs = (s.post k fs).endResync p := by
  unfold State.post; rw [← State.kick_endResync]; cases p <;> rfl

/-- A request whose effect has left its ports quiet is replied to. -/
theorem State.QuietPorts.replies {u w t : State} {p : Port} {code : Nat} {r : Reply} (hq : u.QuietPorts w)
    (hw : w = u.setPif w.pif) (h : w.Answers t p code r) : u.Replies t p code r := by
  obtain ⟨h1, h2, h3, h4, h5, h6, h7, h8⟩ := h
  obtain ⟨q1, q2, q3, q4⟩ := hq
  refine ⟨?_, h2, h3, fun q => ⟨(h4 q).1.trans (q4 q).2.2.1, (h4 q).2.2.2.trans (q4 q).2.2.2⟩, ?_, h6.trans q1,
    h7.trans q3, by rw [h8, q2]⟩
  · rw [h1, hw]; rfl
  · intro q hne; rw [h5 q hne]; exact ⟨(q4 q).1, (q4 q).2.1⟩

/-- A request whose effect ends with a notice. -/
theorem State.replies_post {u t : State} {p : Port} {code : Nat} {r : Reply} (k : NoticeKind) (fs : List Field)
    (h : (u.post k fs).Answers t p code r) : u.Replies t p code r := (u.post_quiet k fs).replies (u.post_setPif k fs) h

end Sys2Proof.Machine
end

