-- ==== Sys2Proof/Laws/Transports.lean ====
section
/-! SUPPORT. What the transports can do: what arrives puts commands behind those that wait and may end what the receiver
disregards, and what is sent has the length that was clocked. -/

namespace Sys2Proof.Machine

/-- What arrives changes the queue alone. -/
theorem State.enqueue_eq (s : State) (cs : List Instr) : s.enqueue cs = s.setPending (s.pending ++ cs) := rfl

@[simp] theorem State.enqueue_pending (s : State) (cs : List Instr) : (s.enqueue cs).pending = s.pending ++ cs := rfl

@[simp] theorem State.enqueue_nil (s : State) : s.enqueue [] = s := by simp [State.enqueue, State.setPending]

theorem State.enqueue_enqueue (s : State) (xs ys : List Instr) : (s.enqueue xs).enqueue ys = s.enqueue (xs ++ ys) := by
  simp [State.enqueue, State.setPending]

@[simp] theorem padTo_length (n : Nat) (bs : List Byte) : (padTo n bs).length = n := by
  induction n generalizing bs with
  | zero => rfl
  | succ n ih => cases bs <;> simp [padTo, ih]

/-- A read sends as many bytes as the partner clocks. -/
@[simp] theorem PortRec.readBytes_length (r : PortRec) (n : Nat) : (r.readBytes n).length = n := padTo_length n _

/-! A transaction of either bus, a byte on mode 0 and a word on mode 2 put commands behind those that wait; the last two
may also end the disregarding of R177. Nothing else changes. -/

theorem State.unitTransaction_eq (s : State) (bs : List Byte) : ∃ cs, s.unitTransaction bs = s.enqueue cs := by
  cases bs with
  | nil => exact ⟨[], by simp [State.unitTransaction]⟩
  | cons k rest =>
    simp only [State.unitTransaction]
    split
    · exact ⟨_, rfl⟩
    · split
      · exact ⟨_, rfl⟩
      · exact ⟨[], by simp⟩

theorem State.busWrite_eq (s : State) (a : Nat) (bs : List Byte) : ∃ cs, s.busWrite a bs = s.enqueue cs := by
  unfold State.busWrite
  dsimp only
  split
  · split
    · exact ⟨_, State.enqueue_enqueue s _ _⟩
    · exact ⟨_, rfl⟩
  · exact ⟨[], by simp⟩

theorem State.frameByte_eq (s : State) (g : Bool) (sofar : List Byte) (b : Byte) :
    ∃ cs, (s.frameByte g sofar b).1 = s.enqueue cs := by
  unfold State.frameByte
  dsimp only
  split
  · exact ⟨_, rfl⟩
  · exact ⟨[], by simp⟩

/-- What arrives on modes 0 and 2 changes the queue, and may end the disregarding of R177. -/
def State.received (s : State) (ends : Bool) (cs : List Instr) : State :=
  (if ends then s.endResync .installer else s).enqueue cs

theorem State.asyncStart_eq (s : State) (gap : Nat) (b : Byte) : ∃ e, (s.asyncStart gap b).1 = s.received e [] := by
  unfold State.asyncStart
  split
  · split
    · exact ⟨true, by simp [State.received]⟩
    · split <;> exact ⟨false, by simp [State.received]⟩
  · exact ⟨false, by simp [State.received]⟩

theorem State.asyncByte_eq (s : State) (rx : Receiver) (gap : Nat) (b : Byte) :
    ∃ e cs, (s.asyncByte rx gap b).1 = s.received e cs := by
  have silence : ∃ cs, (s.asyncSilence rx gap).1 = s.enqueue cs := by
    unfold State.asyncSilence; split
    · exact ⟨_, rfl⟩
    · exact ⟨[], by simp⟩
  obtain ⟨cs, hs⟩ := silence
  unfold State.asyncByte
  split
  · split
    · rename_i u h
      obtain ⟨e, he⟩ := u.asyncStart_eq gap b
      have hu : u = s.enqueue cs := by simpa [h] using hs
      exact ⟨e, cs, by rw [he, hu]; cases e <;> simp [State.received, State.enqueue, State.endResync, State.setPending, State.setPif]⟩
    · rename_i u g sofar h
      obtain ⟨ds, hd⟩ := u.frameByte_eq g sofar b
      have hu : u = s.enqueue cs := by simpa [h] using hs
      exact ⟨false, cs ++ ds, by rw [hd, hu, State.enqueue_enqueue]; rfl⟩
  · exact ⟨false, [], by simp [State.received]⟩

theorem State.word_eq (s : State) (rx : Receiver) (w : BitVec 9) : ∃ e cs, (s.word rx w).1 = s.received e cs := by
  unfold State.word
  split
  · split
    · unfold State.firstWord
      dsimp only
      split
      · obtain ⟨ds, hd⟩ := ((s.endResync .installer).enqueue [.frameRestartDiscard]).frameByte_eq false [] (wordByte w)
        exact ⟨true, _, by rw [hd, State.enqueue_enqueue]; rfl⟩
      · obtain ⟨ds, hd⟩ := (s.endResync .installer).frameByte_eq false [] (wordByte w)
        exact ⟨true, ds, by rw [hd]; rfl⟩
    · split
      · obtain ⟨ds, hd⟩ := s.frameByte_eq _ _ _
        exact ⟨false, ds, by rw [hd]; rfl⟩
      · exact ⟨false, [], by simp [State.received]⟩
  · exact ⟨false, [], by simp [State.received]⟩

/-- While no meter is attached the installer port sends nothing on any transport (R176). -/
theorem State.absent_sends (s : State) (h : s.pif.present = false) :
    s.asyncSends = [] ∧ s.wordSends = [] ∧ ∀ a n, s.busSends a n = [] := by
  simp [State.asyncSends, State.wordSends, State.busSends, h]

end Sys2Proof.Machine
end

