-- ==== Sys2Proof/Tests/Slice0.lean ====
section
/-! SUPPORT. Tests: ill-formed commands, a decoded frame, the spec's worked examples (each names its chapter), and, as
`witness_<Name>`, states and operands that meet the hypotheses of each statement together, clause by clause. -/

namespace Sys2Proof.Tests

open Sys2Proof Sys2Proof.Machine

/-! ## Commands and states for the tests -/

def frame (p : Port) : ReqFrame := { port := p, declared := 0, carried := 0, fits := true, coded := true, gap := true }

def fromUnit : ReqFrame := frame .unit
def fromMeter : ReqFrame := frame .installer

def noLimits : RawLimits := ⟨none, none, none, none, none, none, none, none, none, none, none⟩

def rawStep : RawStep :=
  { kind := 6, branches := none, pol := none, duration := some 1, farMode := none, locMode := none, limits := noLimits,
    channel := none, onFail := 0, repeats := 0, label := 0, wait := some 0 }

def bindArgs : BindArgs :=
  { channel := 0, quantity := 2, source := 0, scale := 1, interval := 1000, budget := 40, pageSize := 8, pageCount := 3,
    policy := 1, hold := 1 }

/-- The accumulator and the code of chapter 1's reference sample before it arrives. -/
def seedMH : Seed := { acc := -133120, code := 2000, level := -520, flags := {}, time := 0 }

/-- A default profile in force, a meter attached, and branch MH ACTIVE and seeded. -/
def bench : State :=
  (((State.reset.setPfl { State.reset.pfl with status := .default }).setPif { State.reset.pif with present := true }).setBranchRec
    .mh { BranchRec.powerOn with fitted := true, active := true, seed := some seedMH }).setBranchRec
    .mv { BranchRec.powerOn with fitted := true }

def withTma (x : Tma) : State := bench.setTma x
def withPcu (x : Pcu) : State := bench.setPcu x
def withEtu (x : Etu) : State := bench.setEtu x
def withAcr (x : Acr) : State := bench.setAcr x
def withUnit (x : PortRec) : State := bench.setPort .unit x
def withMeter (x : PortRec) : State := bench.setPort .installer x
def onMode (n : BitVec 2) (s : State) : State :=
  s.setPfl { s.pfl with straps := { s.pfl.straps with iptMode := n } }

/-- Channel 2 of the unit port, sampling MH. -/
def chan : ChanRec :=
  { owner := .unit, state := .running, quantity := .smoothed .mh false, interval := 1000, budget := some 40,
    remaining := some 31, stored := 9, missed := 0, dropped := 0, gap := 0, pageSize := 8, pageCount := 3,
    policy := .overwrite, hold := false, first := 64, pages := [.free, .free, .free], fill := some 0, timer := some 1000,
    stream := some .unit }

def header : PageHeader := { seq := 0, time := 0, gap := 0, short := false, endRun := false }

def withChan (r : ChanRec) : State := bench.setChannel 2 (some r)
def withStream (p : Port) (r : ChanRec) : State :=
  (withChan r).setStream p (some { quantum := 2, current := some 2, run := 1 })

/-- A test of both polarizations under way. -/
def testing (owner : Option Party) (st : TestState) : Etu :=
  { bench.etu with test := { state := st, owner := owner, setup := some { pols := .h, duration := 2, severe := 30 },
                             completed := 0, cause := none, timer := some 1000 } }

def peerFrame (phase : Bool) : PeerFrame :=
  { phase := phase, linkId := 65535, letter := .b, h := .cw, v := .off, settle := .settled, mute := .all false,
    power := -32768, levels := { mh := some (-1200, {}), mv := some (0, {}), dh := none, dv := none }, req := some .cwH,
    grant := true, ind := .none, digest := 0, echo := some 0xFFFF }

def oneStep (k : StepKind) : Step :=
  { kind := k, branches := [.mh], pols := some .both, duration := some 2, farMode := none, locMode := none,
    limits := ⟨none, none, none, none, none, none, none, none, none, none, none⟩, channel := none, onFail := .stop,
    label := 0, wait := some .timeOnly }

def stepCtx (p : StepPhase) : StepCtx :=
  { attempt := 1, repeats := 0, phase := p, half := none, elapsed := 0, started := true, phaseTimer := some 1000,
    measureTimer := some 1000, startTime := { value := 0, unset := true }, suspensions := 0,
    held := { channel := false, localMode := false, turn := false, test := false }, reached := false, testEnded := false,
    acc := .zero, limits := ⟨5, 30, 30, 250, 100, 0, 0, 0, 100, 0, 0⟩ }

/-- A plan of one step in a state. -/
def plan (st : PlanState) (k : StepKind) (c : Option StepCtx) : Ple :=
  { bench.ple with table := some (oneStep k) :: List.replicate 31 none, length := 1, state := st, position := some 0, ctx := c }

def suspension : SuspRec :=
  { primary := .unitMute, causes := [.unitMute], index := 0, attempt := 1, phase := .measure, elapsed := 0,
    time := { value := 0, unset := true }, localTx := none, farTx := none, peerTurn := none, branch := none,
    remaining := none }

def doing (k : StepKind) (p : StepPhase) : State := bench.setPle (plan .running k (some (stepCtx p)))
def suspended (k : StepKind) : State :=
  bench.setPle { plan .suspended k (some (stepCtx .measure)) with susp := some suspension, limitTimer := some 1000 }
def paused : State :=
  bench.setPle { plan .paused .wait none with
    pauseRec := some { reason := .pause, next := { index := 0, attempt := 1, repeats := 0 },
                       time := { value := 0, unset := true }, seen := [.peerLoss] } }

def entry (n : Nat) (v : Verdict) : Entry :=
  { seq := n, kind := .stepResult, step := some { index := 0, label := 0, attempt := 1 }, verdict := some v, reason := none,
    startTime := { value := 0, unset := true }, endTime := { value := 0, unset := true }, suspensions := 0,
    superseded := false, ref := none, items := [] }

/-- A record whose next sequence number is `n`. -/
def record (st : RecordState) (n : Nat) (es : List Entry) : Acr := { bench.acr with state := st, next := n, entries := es }

def halted (held : Option Entry) (n : Nat) : State :=
  (bench.setPle { plan .halted .wait none with halt := some .recordFull }).setAcr { record .opened n [] with held := held }

def notice : Notice := { kind := .peerState, payload := [.u 1 0] }

/-- The port record of an idle port with notices waiting. -/
def queued (mask : BitVec 16) (n : Nat) : PortRec := { PortRec.reset mask with queue := List.replicate n notice }

def reply : Response := { status := .ok, echo := 1, clamped := false, discarded := false, payload := [.u 1 7] }

/-- Whether a command answers with a next state for which a test holds. -/
def ends (o : Host.Outcome State Fault Refusal) (ok : State → Bool) : Bool :=
  match o with
  | .next t => ok t
  | _ => false

/-! ## Ill-formed commands -/

def image : List Byte := [0x5B, 0, 7, 0, 0, 0, 0]

theorem test_ill_formed_events :
    (Instr.detectorSample .mh 4096 true).wellFormed = false ∧ (Instr.settleReport 256).wellFormed = false ∧
      (Instr.profileReadComplete [0x5B, 0, 8, 0, 0, 0, 0]).wellFormed = false ∧
      (Instr.profileReadComplete [0x5C, 0, 7, 0, 0, 0, 0]).wellFormed = false ∧
      (Instr.profileReadComplete [0x5B, 0, 6, 0, 0, 0]).wellFormed = false ∧
      (Instr.profileReadComplete [0x5B]).wellFormed = false ∧ (Instr.profileReadComplete image).wellFormed = true ∧
      (Instr.memoryHeaderReject [0x5B, 0, 7, 0, 0]).wellFormed = false ∧
      (Instr.memoryHeaderReject [0x5C]).wellFormed = false ∧
      (Instr.memoryHeaderReject [0x5B, 4, 1, 0, 0]).wellFormed = true := by decide

theorem test_ill_formed_requests :
    (Instr.branchStatus { fromUnit with declared := 65536 }).wellFormed = false ∧
      (Instr.unknownRequest fromUnit 0x3B).wellFormed = false ∧ (Instr.unknownRequest fromUnit 256).wellFormed = false ∧
      (Instr.readValue fromUnit 256 0 0).wellFormed = false ∧ (Instr.readValue fromUnit 0 256 0).wellFormed = false ∧
      (Instr.readValue fromUnit 0 0 256).wellFormed = false ∧ (Instr.channelStatus fromUnit 256).wellFormed = false ∧
      (Instr.readSteps fromUnit 256 0).wellFormed = false ∧ (Instr.readSteps fromUnit 0 256).wellFormed = false ∧
      (Instr.readEntries fromUnit 65536 0).wellFormed = false ∧ (Instr.readEntries fromUnit 0 256).wellFormed = false ∧
      (Instr.resetPeak fromUnit 256).wellFormed = false ∧ (Instr.setPointing fromUnit 256).wellFormed = false ∧
      (Instr.run fromUnit 256).wellFormed = false ∧ (Instr.openStream fromUnit (some 256)).wellFormed = false ∧
      (Instr.join fromUnit 256).wellFormed = false ∧ (Instr.startTest fromUnit 256 0 none).wellFormed = false ∧
      (Instr.startTest fromUnit 0 (2 ^ 32) none).wellFormed = false ∧
      (Instr.startTest fromUnit 0 0 (some 256)).wellFormed = false ∧ (Instr.txRequest fromUnit 256).wellFormed = false ∧
      (Instr.turnRequest fromUnit 256).wellFormed = false ∧ (Instr.setPlanLength fromUnit 256).wellFormed = false ∧
      (Instr.runPlan fromUnit (some 256)).wellFormed = false ∧ (Instr.setStepMode fromUnit 256).wellFormed = false ∧
      (Instr.setBranch fromUnit 256 0).wellFormed = false ∧ (Instr.setBranch fromUnit 0 256).wellFormed = false ∧
      (Instr.setTemperature fromUnit 32768).wellFormed = false ∧ (Instr.setTxPower fromUnit (-32769)).wellFormed = false ∧
      (Instr.waive fromUnit 65536).wellFormed = false ∧ (Instr.loadProfile fromUnit [0]).wellFormed = false := by decide

theorem test_ill_formed_entries :
    (Instr.bind fromUnit { bindArgs with budget := 2 ^ 24 }).wellFormed = false ∧
      (Instr.bind fromUnit { bindArgs with interval := 65536 }).wellFormed = false ∧
      (Instr.bind fromUnit { bindArgs with hold := 256 }).wellFormed = false ∧
      (Instr.bind fromUnit bindArgs).wellFormed = true ∧ (Instr.loadSteps fromUnit 256 [rawStep]).wellFormed = false ∧
      (Instr.loadSteps fromUnit 0 []).wellFormed = false ∧ rawStep.wellFormed = true ∧
      ({ rawStep with kind := 256 } : RawStep).wellFormed = false ∧
      ({ rawStep with branches := some [256] } : RawStep).wellFormed = false ∧
      ({ rawStep with duration := some (2 ^ 32) } : RawStep).wellFormed = false ∧
      ({ rawStep with label := 65536 } : RawStep).wellFormed = false ∧
      ({ rawStep with wait := some 256 } : RawStep).wellFormed = false ∧
      ({ noLimits with minFade := some 32768 } : RawLimits).wellFormed = false ∧
      ({ noLimits with errored := some (-1) } : RawLimits).wellFormed = false ∧
      ({ noLimits with maxEvents := some 65536 } : RawLimits).wellFormed = false ∧
      (RawChannel.mk 0 0 0 0 65536).wellFormed = false := by decide

/-! ## Frames -/

/-- SET_TEMPERATURE (0x32, R179) with the two bytes of -40, and a frame one byte short of its payload (R183). -/
theorem test_decode_request :
    decodeRequest .unit false [0x32, 0, 2, 0xFF, 0xD8] =
        some (.setTemperature { port := .unit, declared := 2, carried := 2, fits := true, coded := true, gap := false } (-40)) ∧
      decodeRequest .unit false [0x12, 0, 1] =
        some (.run { port := .unit, declared := 1, carried := 0, fits := false, coded := true, gap := false } 0) ∧
      decodeRequest .unit false [0x12, 0] = none := by decide

/-- R186's check value, and the check of no byte. -/
theorem test_check_value :
    crc [0x31, 0x32, 0x33, 0x34, 0x35, 0x36, 0x37, 0x38, 0x39] = 0x29B1 ∧ crc [] = 0xFFFF := by decide +kernel

/-- A present GRANT is 1 and an absent one 0 (R99, R178), four fields before the last, the echo's value. -/
theorem test_grant_presence :
    ∀ grant, ({ peerFrame true with grant := grant } : PeerFrame).fields.reverse[4]? = some (.u 1 grant.toNat) := by decide

/-- R67: from 15 ones the sum of stages 15 and 14 is 0 for fourteen bits, and then 1. -/
theorem test_first_block :
    ((List.range 16).map fun i => (emitBlock (BitVec.allOnes 15)).1.getLsbD i) =
      List.replicate 14 false ++ [true, false] := by decide +kernel

/-! ## Worked examples -/

/-- Chapter 1.9's table of MH; between its breakpoints 0, 5, 6, 7 and 15 any ordered ones. -/
def workedTable : List (Nat × Int) :=
  [(200, -1150), (480, -1070), (760, -990), (1040, -910), (1320, -830), (1600, -750), (2000, -600), (2400, -450),
   (2587, -412), (2774, -375), (2961, -338), (3148, -300), (3335, -263), (3522, -225), (3709, -188), (3900, -150)]

def worked : State :=
  (bench.setBlu { bench.blu with temp := { held := 60, status := .fresh, timer := some 1 } }).setBranchRec .mh
    { fitted := true, active := true, table := workedTable, origin := .profile, slope := -18, shift := 3, seed := some seedMH }

/-- Chapter 1.9's reference sample: lookup -503, correction -6, accumulator -132,768, readings -519 and -5186. -/
theorem test_reference_sample :
    lookup workedTable 2260 = { level := -503, below := false, above := false } ∧ correction (-18) 60 = -6 ∧
      ends (exec (.detectorSample .mh 2260 true) worked) (fun t =>
        (t.seed .mh).map Seed.acc == some (-132768) && (t.seed .mh).map Seed.level == some (-509) &&
          t.smoothed .mh == some (-519) && (t.figure (.smoothed .mh true)).map Figure.value == some (-5186)) = true := by
  decide +kernel

/-- Chapter 1.9's third sample after a switch-on: code 150 lies below the table. -/
theorem test_below_range :
    lookup workedTable 150 = { level := -1150, below := true, above := false } ∧
      smooth 3 (-1156) (some (-131264)) = -151848 ∧ coarse (-151848) = -593 ∧ fine (-151848) = -5932 := by decide

/-- Chapter 2.8: P_MH is -505 from a reported 200 and -475 from the nominal 230. -/
theorem test_predicted_level :
    let path : PathFigures :=
      { farPower := 230, farTxLoss := 15, farGain := 410, mainGain := 410, divGain := 380, pathLoss := 1490 }
    let p : Pfl := { bench.pfl with active := { Sections.none with
      link := some { linkId := 3150, letter := .a, fitted := .all true, commPower := 200, path := some path },
      branch := { mh := some { BranchValues.default with rxLoss := 20 }, mv := none, dh := none, dv := none } } }
    predict p ⟨.reported 200, .off⟩ .mh = .level (-505) false ∧ predict p ⟨.reported 200, .off⟩ .mv = .absent .cross ∧
      predict p ⟨.nominal, .nominal⟩ .mh = .level (-475) true := by decide

/-- Chapter 5.9, row 3: H is muted over a granted CW_H at change 9. -/
theorem test_mute_over_grant :
    let s := withTma { bench.tma with
      peerSlot := some .cwH, instSlot := some .cwBoth, driven := { h := .cw, v := .off, freeze := some 100 }, change := 9,
      settle := .settled }
    ends (exec (.setMute fromUnit 1) s) (fun t =>
      t.tma.driven == { h := .off, v := .off, freeze := some 100 } && t.tma.change == 10 && t.tma.settle == .settling &&
        t.tma.winner == .peer) = true := by decide +kernel

/-- Chapter 4.9, intervals 4 and 9: the hunt-seen flag makes both SEVERE, and the eighth opens the outage. -/
theorem test_outage_opens :
    let c : CountRec := { CountRec.powerOn with pend := List.replicate 7 .severe, totals := { Totals.zero with errored := 1 } }
    Interval.classOf { blocks := 4000, errored := 37, bitErrors := 0, hunt := false } 30 = .errored ∧
      Interval.classOf { blocks := 1200, errored := 1190, bitErrors := 0, hunt := true } 30 = .severe ∧
      c.book .severe =
        { CountRec.powerOn with outage := true, totals := { Totals.zero with errored := 1, outage := 8 } } := by decide

/-- Chapter 3.10, row 6: at expiry 33 every page is READY and OVERWRITE discards the page after the fill position. -/
theorem test_overwrite :
    let es : List Sample := List.replicate 8 ⟨-520, {}⟩
    let r : ChanRec := { chan with
      remaining := some 8, stored := 32, pages := [.ready header es, .ready header es, .ready header es] }
    let s := (withChan r).setClock { bench.clock with ms := 533000 }
    ends (exec (.intervalExpiry 2) s) (fun t =>
      match t.channel 2 with
      | some q => q.dropped == 1 && q.stored == 33 && q.remaining == some 7 && q.fill == some 1 &&
          q.pages[1]? == some (.filling { header with seq := 32, time := 533000 } [⟨-520, {}⟩])
      | none => false) = true := by decide +kernel

/-- Chapter 3.10: the store that runs out of runs. -/
theorem test_store_runs :
    firstFit [(1024, 512)] 1280 = none ∧ firstFit [(1024, 512)] 768 = some 0 ∧
      largestRun [(1024, 512), (0, 768)] = 512 := by decide

/-- Chapter 7.7, step 1: the sums of its four seconds give MEAN_LEVEL -520 and DEVIATION -15; -587 in the fourth fails. -/
theorem test_level_step :
    let l : Resolved := ⟨5, 30, 30, 250, 100, 0, 0, 0, 100, 0, 0⟩
    let a (sum : Int) : LevelAcc := { levelSum := sum, predSum := -2020, count := 4, nominal := false, uncal := false }
    (judgeLevel l .mh (a (-2078))).1 = some true ∧ (judgeLevel l .mh (a (-2078))).2.map Item.value = [-520, -15] ∧
      (judgeLevel l .mh (a (-2141))).1 = some true ∧ (judgeLevel l .mh (a (-2142))).1 = some false := by decide

def bytes2 (n : Nat) : List Byte := natBytes 2 n

/-- Chapter 11.9's image, with the W_edge and the next-offset of its section at 52. -/
def chainImage (edge next : Nat) : List Byte :=
  let windows (next main edge side : Nat) : List Byte :=
    [3] ++ bytes2 10 ++ bytes2 next ++ bytes2 40 ++ bytes2 main ++ bytes2 edge ++ bytes2 side ++ [2, 5]
  let link : List Byte :=
    [1] ++ bytes2 18 ++ bytes2 28 ++ bytes2 3150 ++ [0x41, 0x0F] ++ [200, 230, 15, 410, 410, 380, 1490].flatMap bytes2
  let body := [0x5B] ++ bytes2 69 ++ bytes2 5 ++ link ++ ([9] ++ bytes2 4 ++ bytes2 37 ++ [1, 2, 3, 4]) ++
    windows 52 30 150 350 ++ windows next 25 edge 300
  body ++ bytes2 (crc body).toNat

def rejectionOf (image : List Byte) : Option Rejection :=
  match judgeImage image with
  | .ok _ => none
  | .error r => some r

/-- An image of a LINK section alone with the given fitted set. -/
def linkImage (fitted : Byte) : List Byte :=
  let body := [0x5B] ++ bytes2 30 ++ bytes2 5 ++ [1] ++ bytes2 18 ++ bytes2 0 ++ bytes2 3150 ++ [0x41, fitted] ++
    [200, 230, 15, 410, 410, 380, 1490].flatMap bytes2
  body ++ bytes2 (crc body).toNat

/-- Chapter 11.9: the image stands with the later WINDOWS; a loop and a broken order are found where the text says. -/
theorem test_worked_chain :
    (match judgeImage (chainImage 120 0) with
      | .ok xs => (sectionsOf xs).windows.map WindowValues.side == some 300 && xs.length == 4
      | .error _ => false) = true ∧
      rejectionOf (chainImage 120 37) = some { reason := .sectionCount, offset := some 37 } ∧
      rejectionOf (chainImage 25 0) = some { reason := .order, offset := some 52 } := by decide +kernel

/-! ## Witnesses: steps, reset and the laws -/

theorem witness_StepTakesTheFront :
    (bench.setPending [.holdExpiry]).pending = .holdExpiry :: [] ∧ ∃ t, exec .holdExpiry bench = .next t :=
  ⟨rfl, _, rfl⟩

theorem witness_IdleStepIsOneMillisecond :
    bench.pending = [] ∧ (bench.setClock { ms := 2 ^ 32 - 1, sec := 0, sub := 998 }).clock.sub < 999 ∧
      (bench.setClock { ms := 0, sec := 2 ^ 32 - 1, sub := 999 }).pending = [] ∧
      999 ≤ (bench.setClock { ms := 0, sec := 2 ^ 32 - 1, sub := 999 }).clock.sub := by decide

/-- A state in which every law bites: a full queue and record, a mute, a grant, the store's last region, a run and a
test under way, a suspended plan, and a held peak. The transmitter's report is about to be taken. -/
def laden : State :=
  let s := (bench.setPort .unit (queued 0xFFF 16)).setAcr
    (record .opened 97 ((List.range 96).map fun i => entry (i + 1) .fail))
  let s := s.setTma { s.tma with
    peerSlot := some .cwH, mute := { h := true, v := false }, driven := { h := .off, v := .off, freeze := some 100 } }
  let s := s.setPcu { s.pcu with grant := some .cwH, req := .deferred .unit .cwV }
  let s := (s.setChannel 2 (some { chan with first := 2024 })).setChannel 3 (some { chan with first := 2000 })
  let s := s.setEtu { testing (some .unit) .running with
    counts := .all { CountRec.powerOn with pend := List.replicate 8 .severe } }
  let s := s.setEtu { s.etu with test := { s.etu.test with completed := 8 } }
  let s := s.setPle (suspended .wait).ple
  let s := s.setPoint .mh { s.point .mh with peak := some { held := -520, marker := -521, uncal := false } }
  s.setPending [.settleReport 0]

theorem laden_steps : ∃ t, step laden = .next t := ⟨_, rfl⟩

theorem witness_QueueLawKept : laden.QueueLaw ∧ ∃ t, step laden = .next t := ⟨by decide +kernel, laden_steps⟩

theorem witness_RecordLawKept : laden.RecordLaw ∧ ∃ t, step laden = .next t := ⟨by decide +kernel, laden_steps⟩

theorem witness_MuteLawKept : laden.MuteLaw ∧ ∃ t, step laden = .next t := ⟨by decide +kernel, laden_steps⟩

theorem witness_TurnLawKept :
    (laden.TurnLaw ∧ ∃ t, step laden = .next t) ∧
      (let s := (withAcr (record .closing 1 [])).setPending [.settleReport 0]
       s.acr.state ≠ .opened ∧ s.pcu.grant = none ∧ ends (step s) (fun _ => true) = true) :=
  ⟨⟨by decide +kernel, laden_steps⟩, by decide +kernel⟩

theorem witness_StoreLawKept : laden.StoreLaw ∧ ∃ t, step laden = .next t := by
  have one : ∀ c, ∀ r ∈ laden.channel c, r.first + r.length ≤ 2048 := by decide +kernel
  have two : ∀ c d, c ≠ d → ∀ r ∈ laden.channel c, ∀ q ∈ laden.channel d, apart r q := by decide +kernel
  exact ⟨⟨fun c r h => one c r h, fun c d r q h hr hq => two c d h r hr q hq⟩, laden_steps⟩

theorem witness_CountLawKept : laden.CountLaw ∧ ∃ t, step laden = .next t := by
  have key : ∀ c, ∀ r ∈ laden.channel c,
      (r.budget = some 40 ∧ r.remaining = some 31 ∧ r.stored = 9 ∧ r.state = .running) := by decide +kernel
  refine ⟨fun c r h => ?_, laden_steps⟩
  obtain ⟨hb, hr, hs, _⟩ := key c r h
  simp [ChanRec.countLaw, hb, hr, hs]

theorem witness_TestLawKept : laden.TestLaw ∧ ∃ t, step laden = .next t :=
  ⟨fun p => by cases p <;> decide +kernel, laden_steps⟩

theorem witness_PlanRecordLawsKept :
    (laden.SuspensionLaw ∧ laden.PauseLaw ∧ laden.HaltLaw ∧ laden.ClosedLaw) ∧ ∃ t, step laden = .next t := by
  have sus : ∀ r ∈ laden.ple.susp, r.primary ∈ r.causes ∧ r.causes.Nodup := by decide +kernel
  have seen : ∀ r ∈ laden.ple.pauseRec, r.seen.Nodup := by decide +kernel
  exact ⟨⟨⟨by decide +kernel, fun r h => sus r h⟩, ⟨by decide +kernel, fun r h => seen r h⟩, by decide +kernel,
    by decide +kernel⟩, laden_steps⟩

theorem tableLaw_default : tableLaw defaultTable := ⟨by decide, by decide, by decide⟩

theorem witness_LevelLawsKept : (laden.LevelLaw ∧ laden.PeakLaw) ∧ ∃ t, step laden = .next t := by
  have plain : ∀ b, (laden.branch b).table = defaultTable ∧ (laden.branch b).slope = 0 ∧ (laden.branch b).shift = 3 := by
    intro b; cases b <;> decide +kernel
  have seeds : ∀ b, ∀ x ∈ (laden.branch b).seed, -307200 ≤ x.acc ∧ x.acc ≤ 0 ∧ -1200 ≤ x.level ∧ x.level ≤ 0 := by
    intro b; cases b <;> decide +kernel
  have peaks : ∀ b, ∀ k ∈ (laden.point b).peak, ∀ x ∈ laden.seed b, x.smoothed ≤ k.held := by
    intro b; cases b <;> decide +kernel
  refine ⟨⟨⟨fun b => ⟨?_, ?_⟩, by decide +kernel⟩, fun b k x hk hx => peaks b k hk x hx⟩, laden_steps⟩
  · obtain ⟨ht, hs, hk⟩ := plain b
    exact ⟨ht ▸ tableLaw_default, by omega, by omega, by omega, fun x hx => seeds b x hx⟩
  · cases b <;> decide +kernel

/-! ## Witnesses: whole-machine rules, formats and arithmetic -/

theorem witness_RequestScreening :
    let busy (x : Option Refused) : State := withUnit { PortRec.reset 0xFFF with inService := some 1, refusal := x }
    (bench.setPif { bench.pif with present := false }).disregards fromMeter = true ∧
      (bench.setPif { bench.pif with resync := true }).disregards { fromMeter with gap := false } = true ∧
      bench.Settled ∧ (Instr.pause fromMeter).request = some (fromMeter, 0x2C) ∧
      ((busy none).disregards fromUnit = false ∧ ((busy none).port .unit).inService.isSome = true ∧
        ((busy none).port .unit).refusal = none ∧
        ((busy (some ⟨2, 255⟩)).port .unit).refusal = some ⟨2, 255⟩ ∧
        (Instr.pause fromUnit).request = some (fromUnit, 0x2C) ∧ (busy none).Settled ∧ (busy (some ⟨2, 255⟩)).Settled) ∧
      (State.reset.disregards fromUnit = false ∧ (State.reset.port .unit).inService = none ∧
        State.reset.pfl.status = .reading ∧ State.reset.Settled) ∧
      (bench.disregards fromUnit = false ∧ (bench.port .unit).inService = none ∧ bench.pfl.status ≠ .reading ∧
        badLength { fromUnit with declared := 1281, carried := 1281 } = true ∧
        badLength { fromMeter with declared := 257, carried := 257 } = true ∧
        badLength { fromUnit with declared := 1280, carried := 1279 } = true ∧
        badLength { fromUnit with declared := 1280, carried := 1280 } = false) ∧
      (bench.disregards fromMeter = false ∧ ({ fromUnit with fits := false } : ReqFrame).fits = false) := by
  decide +kernel

theorem witness_InstallerPortIsBound :
    let s := withAcr { bench.acr with state := .closed }
    ((Instr.setBranch fromMeter 0 0).request = some (fromMeter, 0x31) ∧
        (Instr.resetPart fromMeter).request = some (fromMeter, 0x3B) ∧
        (Instr.setBranch fromMeter 0 0).wellFormed = true ∧ (Instr.resetPart fromMeter).wellFormed = true ∧
        fromMeter.port = .installer ∧ bench.Serves fromMeter ∧ bench.Settled) ∧
      (Instr.nextSegment fromMeter).request = some (fromMeter, 0x05) ∧
      (Instr.resetPeak fromMeter 0).request = some (fromMeter, 0x0F) ∧
      (Instr.resetPlan fromMeter).request = some (fromMeter, 0x30) ∧ (Instr.nextSegment fromMeter).wellFormed = true ∧
      (Instr.resetPeak fromMeter 0).wellFormed = true ∧ (Instr.resetPlan fromMeter).wellFormed = true ∧
      s.acr.state = .closed ∧ s.Settled ∧ s.Serves fromMeter ∧
      ends (exec (.nextSegment fromMeter) s) (fun _ => true) = true ∧
      ends (exec (.resetPeak fromMeter 0) s) (fun _ => true) = true ∧
      ends (exec (.resetPlan fromMeter) s) (fun _ => true) = true := by decide +kernel

theorem witness_PeerFramesAreReadBack :
    let f := peerFrame true
    f.linkId < 2 ^ 16 ∧ -(2 ^ 15) ≤ f.power ∧ f.power < 2 ^ 15 ∧
      (∀ b, ∀ x ∈ f.levels.get b, -1200 ≤ x.1 ∧ x.1 ≤ 0) ∧ (f.ind = .none → f.digest = 0) :=
  ⟨by decide, by decide, by decide, fun b => by cases b <;> decide, by decide⟩

theorem witness_LookupRule :
    tableLaw workedTable ∧ 199 < codeAt workedTable 0 ∧ codeAt workedTable 15 ≤ 3900 ∧
      (codeAt workedTable 0 ≤ 200 ∧ 200 < codeAt workedTable 1) ∧
      (codeAt workedTable 14 ≤ 3899 ∧ 3899 < codeAt workedTable 15) ∧ 3900 = codeAt workedTable 15 :=
  ⟨⟨by decide, by decide, by decide⟩, by decide⟩

theorem witness_CorrectionRule :
    ((-200 : Int) ≤ -200 ∧ (200 : Int) ≤ 200 ∧ (-55 : Int) ≤ -55 ∧ (125 : Int) ≤ 125) ∧ 0 ≤ (-200 : Int) * (-55 - 25) ∧
      (-200 : Int) * (125 - 25) < 0 ∧ -1200 + correction (-200) 125 < -1200 ∧ 0 < 0 + correction 200 125 ∧
      (-1200 ≤ -1000 + correction (-200) 125 ∧ -1000 + correction (-200) 125 ≤ 0) ∧ bench.seed .mh = some seedMH := by decide

theorem witness_SmoothingRule :
    ((0 : Nat) ≤ 7 ∧ (-1200 : Int) ≤ -1200 ∧ (-307200 : Int) ≤ 0 ∧ 256 * (-1200 : Int) < 0) ∧
      ((7 : Nat) ≤ 7 ∧ 0 ≤ 256 * (0 : Int) - (-127) ∧ 256 * (0 : Int) - (-127) < (2 ^ 7 : Nat)) ∧
      bench.seed .mv = none := by decide

theorem witness_ClassAndOutageRule :
    let c (o : Bool) (k : IntervalClass) (n : Nat) : CountRec :=
      { CountRec.powerOn with outage := o, pend := List.replicate n k }
    (pendLaw (c false .severe 6) ∧ pendLaw (c false .severe 7) ∧ pendLaw (c true .clean 6) ∧ pendLaw (c true .errored 7)) ∧
      (c false .severe 7).pend.length = 7 ∧ (c true .errored 7).outage = true := by
  refine ⟨⟨?_, ?_, ?_, ?_⟩, by decide⟩ <;> unfold pendLaw <;> decide

theorem witness_FirstFitAndArbiterRules :
    let ready : ChanRec := { chan with pages := [.ready header [], .free, .free] }
    let s := withStream .unit ready
    (firstFit [(24, 2024)] 24 = some 0 ∧ firstFit [(0, 2024)] 24 = some 2024 ∧ firstFit [(0, 2024)] 25 = none) ∧
      s.offers .unit 2 = true ∧ (s.chooseChannel .unit { quantum := 2, current := some 2, run := 1 }).isSome = true ∧
      (2 : Nat) ≤ 2 ∧ Fin.ofNat 8 (2 + 1 + 7) = (2 : Fin 8) ∧ (∀ k, k < 7 → s.offers .unit (Fin.ofNat 8 (2 + 1 + k)) = false) ∧
      ∀ c, (withStream .unit chan).offers .unit c = false := by decide +kernel

/-- The largest free run, beside a region of 2,024 entries, and a store without a free entry. -/
theorem witness_FirstFitAndArbiterRules_run :
    (∀ r ∈ [(0, 2024)], 0 < r.2) ∧ largestRun [(0, 2024)] = 24 ∧ 24 < 25 ∧ largestRun [(0, 2048)] = 0 ∧
      (withChan chan).chu.regions none = [(64, 24)] ∧ (withChan chan).chu.regions (some 2) = [] := by decide +kernel

/-- The context of a step in MEASURE whose seconds have given these figures. -/
def gathered (a : Machine.Acc) : StepCtx := { stepCtx .measure with acc := a }

theorem witness_VerdictRules :
    let levels (sum : Int) : Machine.Acc :=
      { Acc.zero with level := .all { levelSum := sum, predSum := 0, count := 1, nominal := false, uncal := false } }
    let crosses (sum : Int) : Machine.Acc :=
      { Acc.zero with xpd := .all { sum := sum, count := 1, atLeast := false, uncal := false } }
    let diffs (sum : Int) : Machine.Acc :=
      { Acc.zero with div := .all { signed := sum, magn := sum, count := 1, uncal := false } }
    let soaks (n : Nat) : Machine.Acc :=
      { Acc.zero with soak := .all { range := some (-520, -510), below := n, events := 0, flag := false, count := 1, uncal := false } }
    let both : Step := { oneStep .diversity with branches := [.mh, .dh] }
    let tested (n : Nat) : State := withEtu { bench.etu with
      counts := .all { CountRec.powerOn with totals := { Totals.zero with errored := n } } }
    let result (s : State) (x : Step) (a : Machine.Acc) : Result := s.resultOf x (gathered a)
    let noData (x : Step) : Prop := (result bench x Acc.zero).reason = some .noData
    (mean 5 0 = none ∧ (0 : Nat) < 2 ∧ mean 5 2 = some 3 ∧ mean (-5) 2 = some (-3)) ∧
      ((oneStep .level).branches.Nodup ∧ (bench.seed .mh).isSome = true ∧ bench.seed .mv = none) ∧
      (noData (oneStep .level) ∧ (result bench (oneStep .level) (levels 30)).verdict = .pass ∧
        (result bench (oneStep .level) (levels 31)).reason = some .limit) ∧
      (noData (oneStep .xpd) ∧ (result bench (oneStep .xpd) (crosses 250)).verdict = .pass ∧
        (result bench (oneStep .xpd) (crosses 249)).reason = some .limit) ∧
      (noData both ∧ (result bench both (diffs 100)).verdict = .pass ∧
        (result bench both (diffs 101)).reason = some .limit) ∧
      ((result (tested 0) (oneStep .errtest) Acc.zero).verdict = .pass ∧
        (result (tested 1) (oneStep .errtest) Acc.zero).reason = some .limit) ∧
      noData (oneStep .soak) ∧ (result bench (oneStep .soak) (soaks 0)).verdict = .pass ∧
        (result bench (oneStep .soak) (soaks 1)).reason = some .limit := by decide +kernel

/-- R134 and R140: a branch without a contributing second still has its kept counts as items. -/
theorem test_soak_without_seconds :
    (bench.resultOf (oneStep .soak) (gathered .zero)).items.map (fun i => (i.code, i.value)) =
      [(.secondsBelow, 0), (.fadeEvents, 0)] := by decide +kernel

theorem witness_PointingRule :
    let path : PathFigures :=
      { farPower := 230, farTxLoss := 15, farGain := 410, mainGain := 410, divGain := 380, pathLoss := 1490 }
    let linked : Pfl := { bench.pfl with active := { Sections.none with
      link := some { linkId := 3150, letter := .a, fitted := .all true, commPower := 200, path := some path } } }
    let w := WindowValues.default
    let r : PointRec := { PointRec.powerOn with cls := .side, cand := some (.main, 19) }
    let k : Peak := { held := -520, marker := -522, uncal := false }
    let s := bench.setPoint .mh { PointRec.powerOn with
      pred := .level (-365) false, cls := .main, peak := some { held := -520, marker := -520, uncal := false } }
    (bench.pfl.link.path = none ∧ linked.link.path = some path) ∧
      (0 ≤ w.hi ∧ 0 < w.main ∧ w.main < w.edge ∧ w.edge < w.side) ∧
      (LobeClass.main ≠ r.cls ∧ ¬(LobeClass.main = .unreferenced ∨ LobeClass.main = .cross) ∧
        r.cand = some (.main, 19) ∧ 20 ≤ min 255 (19 + 1) ∧ (∀ n, r.cand ≠ some (.skirt, n)) ∧ ¬20 ≤ 1) ∧
      (-520 ≤ k.held ∧ k.held < -519 ∧ k.marker + 3 ≤ -519 ∧ k.held < -519 ∧ -519 < k.marker + 4) ∧
      (s.atPeak .mh 0 = true ∧ s.falsePeak .mh = true ∧ bench.falsePeak .mh = false) ∧
      outputDeviation .main (some 0) (some (-520)) = some 0 ∧ outputDeviation .cross none (some (-520)) = some 80 := by
  refine ⟨by decide, by decide, ⟨by decide, by decide, by decide, by decide, ?_, by decide⟩, by decide, by decide, by decide⟩
  intro n h
  simp at h

theorem witness_PointingRule_tone :
    let at_ (k : Cadence) (n : Nat) (b : Timer) : Ptu := { bench.ptu with cadence := k, cadencePhase := n, burst := b }
    ((at_ .continuous 999 none).toneOn = true ∧ (at_ .silent 0 none).toneOn = false) ∧
      ((at_ .four 124 none).toneOn = true ∧ (at_ .four 125 none).toneOn = false) ∧
      ((at_ .two 749 none).toneOn = true ∧ (at_ .two 750 none).toneOn = false) ∧
      ((at_ .one 499 none).toneOn = true ∧ (at_ .one 500 none).toneOn = false) ∧
      ((at_ .four 0 (some (50 - 9))).toneOn = false ∧ (at_ .four 0 (some (50 - 10))).toneOn = true ∧
        (at_ .four 0 (some (50 - 25))).toneOn = false ∧ (at_ .four 0 (some (50 - 49))).toneOn = true) := by decide

/-- The section of an image at an offset. -/
def sectionAt (image : List Byte) (o : Nat) : Section :=
  { offset := o, kind := byteAt image o, body := (image.drop (o + 5)).take (wordAt image (o + 1)) }

/-- Chapter 11.9's four sections pass R190's conditions 7 to 9. -/
theorem worked_sections :
    ∀ o ∈ [5, 28, 37, 52],
      let z := sectionAt (chainImage 120 0) o
      bodyLengthGiven z ∧ bodyOrdered z ∧ bodyInRange z := by
  intro o h
  simp only [List.mem_cons, List.not_mem_nil, or_false] at h
  rcases h with rfl | rfl | rfl | rfl <;>
    exact ⟨by decide +kernel, by decide +kernel, by decide +kernel, by decide +kernel, by decide +kernel,
      by decide +kernel, by decide +kernel⟩

theorem witness_ImageRule :
    let good := chainImage 120 0
    let loop := [5, 28, 37, 52, 37, 52, 37, 52, 37, 52, 37, 52, 37, 52, 37, 52]
    (byteAt [0x5C] 0 ≠ 0x5B ∧ ¬7 ≤ wordAt [0x5B, 0, 6, 0, 0, 0] 1 ∧ rejectionOf image = some { reason := .check, offset := none }) ∧
      (byteAt good 0 = 0x5B ∧ wordAt good 1 = good.length ∧
        (crc (good.take (good.length - 2))).toNat = wordAt good (good.length - 2)) ∧
      chains good (wordAt good 3) [5, 28, 37, 52] 0 ∧
      (chains (chainImage 120 37) (wordAt (chainImage 120 37) 3) loop 37 ∧ sectionFits (chainImage 120 37) 37) ∧
      (¬sectionFits (chainImage 120 60) 60 ∧ rejectionOf (chainImage 120 60) = some { reason := .offset, offset := some 60 }) ∧
      (¬bodyOrdered (sectionAt (chainImage 25 0) 52) ∧
        rejectionOf (chainImage 25 0) = some { reason := .order, offset := some 52 }) ∧
      (¬bodyInRange (sectionAt (linkImage 0) 5) ∧ rejectionOf (linkImage 0) = some { reason := .range, offset := some 5 }) ∧
      ¬bodyLengthGiven { offset := 5, kind := 4, body := [] } ∧
      (match judgeImage good with
        | .ok xs => xs == [5, 28, 37, 52].map (sectionAt good)
        | .error _ => false) = true ∧
      (bench.pfl.active.link = none ∧ (bench.pfl.active.branch.get .mh) = none) := by
  refine ⟨by decide +kernel, by decide +kernel, ?_, ⟨?_, by decide +kernel⟩, by decide +kernel, by decide +kernel,
    ⟨fun h => absurd (h.1 rfl).2.1 (by decide +kernel), by decide +kernel⟩, by decide +kernel, by decide +kernel, by decide⟩
  all_goals
    simp only [chains]
    repeat' apply And.intro
    all_goals decide +kernel

/-! ## Witnesses: start-up, receivers, channels and tests -/

theorem witness_ResetsComplete :
    bench.pif.resetDue = false ∧ (bench.setPif { bench.pif with resetDue := true }).pif.resetDue = true := by decide

/-- An image of no section, with its check. -/
def emptyImage : List Byte := [0x5B, 0, 7, 0, 0] ++ bytes2 (crc [0x5B, 0, 7, 0, 0]).toNat

theorem witness_StartUpOutcomes :
    State.reset.pfl.status = .reading ∧ State.reset.Settled ∧
      headerFault [0x5B, 0, 6, 0, 0] = some { reason := .length, offset := none } ∧
      headerFault [0x5B, 4, 1, 0, 0] = some { reason := .length, offset := none } ∧
      headerFault [0x5B, 0, 7, 0, 0] = none ∧ headerFault [0x5B, 4, 0, 0, 0] = none ∧
      (match judgeImage emptyImage with
        | .ok xs => xs.isEmpty
        | .error _ => false) = true ∧
      rejectionOf image = some { reason := .check, offset := none } ∧ bench.pfl.status ≠ .reading ∧ bench.Settled := by
  decide +kernel

theorem witness_DetectorSampleCompletes :
    (bench.branch .mv).active = false ∧ bench.Settled ∧ (bench.branch .mh).active = true ∧ .mh = bench.ptu.pointing ∧
      .mh ≠ (bench.setPtu { bench.ptu with pointing := .dv }).ptu.pointing ∧
      outputDeviation .main (some 0) (some (-520)) = some 0 ∧ outputDeviation .main none none = none ∧
      (raisePeak 3 (-520) false none).2 = false ∧
      (raisePeak 3 (-516) false (some { held := -520, marker := -520, uncal := false })).2 = true ∧
      LobeClass.main.cadence ≠ .silent ∧ LobeClass.none.cadence = .silent ∧
      (settleClass (bench.point .mh) .noSignal true 3).cls ≠ (bench.point .mh).cls ∧
      (settleClass (bench.point .mh) (bench.point .mh).cls true 3).cls = (bench.point .mh).cls := by decide

/-- R28: the plan engine hears of the branch, the old class and the new class. -/
theorem test_class_change_report :
    ((bench.setPoint .mv { bench.point .mv with cls := .main }).branchOff .mv).reports =
      [.classChange .mv .main .none, .branchOff .mv] := by decide

theorem witness_IntervalExpiryCompletes :
    let free : ChanRec := { chan with fill := none }
    let full (n : Nat) : ChanRec := { chan with pages := [.filling header (List.replicate n ⟨0, {}⟩), .free, .free] }
    let ready (p : Policy) : ChanRec :=
      { chan with policy := p, pages := [.ready header [], .ready header [], .ready header []] }
    let lost (r : ChanRec) : ChanRec := { r with quantity := .deviation .mv }
    ((withChan chan).channel 2 = some chan ∧ chan.state = .running ∧ chan.timer.isSome = true) ∧
      bench.sampleOf chan.quantity ≠ none ∧ free.filling = none ∧ free.pages[free.nextPage]? = some .free ∧
      (full 6).filling ≠ none ∧ (full 7).filling ≠ none ∧ (full 7).pageSize ≤ 7 + 1 ∧ 6 + 1 < (full 6).pageSize ∧
      (ready .lose).filling = none ∧ (ready .lose).pages[(ready .lose).nextPage]? ≠ some .free ∧
      bench.sampleOf (lost free).quantity = none ∧ (lost (full 6)).filling ≠ none ∧
      ({ chan with remaining := some 1 } : ChanRec).remaining.map (· - 1) = some 0 ∧
      chan.remaining.map (· - 1) ≠ some 0 ∧ bench.channel 2 = none ∧
      ({ chan with state := .done } : ChanRec).state ≠ .running := by decide +kernel

/-- The page after the last one filled is the first where it was the ring's last, and a counted run ends in DONE. -/
theorem witness_IntervalExpiryCompletes_ends :
    pageAfter { chan with fill := some 2 } = 0 ∧ pageAfter chan = 1 ∧ pageAfter { chan with fill := none } = 0 ∧
      ends (exec (.intervalExpiry 2) (withChan { chan with remaining := some 1 })) (fun t =>
        (t.channel 2).map ChanRec.state == some .done && (t.port .unit).queue.length == 1) = true := by decide +kernel

theorem witness_TestBlockCompletes :
    (compareBlock 0 0).1 = 0 ∧ (compareBlock (BitVec.ofNat 2048 (2 ^ 512 - 1)) 0).1 = 512 ∧
      (compareBlock (BitVec.ofNat 2048 (2 ^ 513 - 1)) 0).1 = 513 ∧
      CountRec.powerOn.sync = .hunt ∧ CountRec.powerOn.good = 0 ∧
      ({ CountRec.powerOn with good := 1 } : CountRec).good = 1 ∧
      ({ CountRec.powerOn with sync := .sync, bad := 3 } : CountRec).bad = 3 := by decide +kernel

theorem witness_TestIntervalExpiryCompletes :
    let s := withEtu (testing (some .unit) .running)
    let sampled : ChanRec := { chan with quantity := .errInterval .h, timer := none }
    (s.etu.test.timer.isSome = true ∧ s.etu.test.setup = some { pols := .h, duration := 2, severe := 30 } ∧
        s.etu.test.state = .running) ∧
      s.etu.test.completed + 1 < 2 ∧ s.etu.tested .h = true ∧ s.etu.tested .v = false ∧
      2 ≤ ({ s.etu.test with completed := 1 } : TestRec).completed + 1 ∧ bench.etu.test.timer = none ∧ bench.Settled ∧
      (s.setChannel 2 (some sampled)).channel 2 = some sampled ∧ sampled.state = .running ∧ s.channel 3 = none ∧
      ∀ p ∈ [Pol.h, .v], chan.quantity ≠ .errInterval p := by
  decide

/-! ## Witnesses: transmitter, modem and timers -/

theorem witness_SettleRules :
    let s := withTma { bench.tma with change := 255 }
    (s.tma.settle = .settling ∧ 255 = s.tma.change ∧ s.Settled ∧ 0 ≠ s.tma.change ∧
        (withTma { bench.tma with settle := .settled }).tma.settle = .settled ∧
        (withTma { bench.tma with settle := .fault }).tma.settle = .fault) ∧
      bench.Settled ∧ bench.tma.timer = none ∧ (withTma { bench.tma with timer := some 1 }).tma.timer.isSome = true ∧
      ¬(bench.tma.driven.h = .off ∧ bench.tma.driven.v = .off) ∧
      (withTma { bench.tma with driven := { h := .off, v := .off, freeze := none }, timer := some 1 }).tma.driven.h =
        .off := by decide

theorem witness_TimersComplete :
    let silent (q : RequestSide) (g : Option RequestMode) : State :=
      withPcu { bench.pcu with silence := some 1, hold := some 1, peer := .paired, req := q, grant := g }
    (bench.blu.temp.timer = none ∧
      (bench.setBlu { bench.blu with temp := { bench.blu.temp with timer := some 1 } }).blu.temp.timer.isSome = true ∧
      bench.pcu.compTimer = none ∧ (withPcu { bench.pcu with compTimer := some 1 }).pcu.compTimer.isSome = true) ∧
      bench.Settled ∧ bench.pcu.silence = none ∧ bench.pcu.hold = none ∧ bench.pcu.peer = .solo ∧
      ((silent .none (some .cwH)).pcu.silence.isSome = true ∧ (silent .none (some .cwH)).pcu.hold.isSome = true ∧
        (silent .none (some .cwH)).pcu.grant.isSome = true) ∧
      (silent (.holding .unit .cwH false .matched .cwH) none).pcu.req = .holding .unit .cwH false .matched .cwH ∧
      (silent (.holding .unit .cwH true .matched .cwH) none).pcu.grant = none ∧
      (silent (.deferred .unit .cwV) (some .cwH)).pcu.req = .deferred .unit .cwV ∧
      (silent (.requesting .unit .cwV) none).pcu.req = .requesting .unit .cwV ∧
      (withPcu { bench.pcu with silence := some 1, peer := .heard }).pcu.peer ≠ .paired := by decide

theorem witness_PeerFrameCompletes :
    let bytes := (peerFrame true).bytes
    let last (status : ProfileStatus) (peer : PeerState) : State :=
      (withPcu { bench.pcu with last := some (peerFrame false), peer := peer }).setPfl { bench.pfl with status := status }
    PeerFrame.parse (bytes.set 46 0) = none ∧ PeerFrame.parse (bytes.take 47) = none ∧ bench.Settled ∧
      PeerFrame.parse bytes = some (peerFrame true) ∧
      (withPcu { bench.pcu with last := some (peerFrame true) }).pcu.last = some (peerFrame true) ∧
      (last .default .paired).pcu.last = some (peerFrame false) ∧ (peerFrame false).phase ≠ (peerFrame true).phase ∧
      (last .reading .heard).pfl.status = .reading ∧ bench.pcu.last = none ∧ bench.pcu.peer = .solo ∧
      judgedPeer bench.pfl.link (peerFrame true) = .mismatch .unset ∧
      ends (exec (.peerFrame bytes) (last .default .paired)) (fun t => t.pcu.peer == .mismatch .unset) = true ∧
      ends (exec (.peerFrame bytes) (last .default (.mismatch .linkId))) (fun t => t.pcu.peer == .mismatch .unset) = true ∧
      ends (exec (.peerFrame bytes) (last .reading .solo)) (fun t => t.pcu.peer == .heard) = true := by decide +kernel

/-- A far end of the same link, end B, as `peerFrame` gives it, and this end, end A, PAIRED with it. -/
def linked : State :=
  (bench.setPfl { bench.pfl with
    active := { bench.pfl.active with link := some { LinkValues.default .a with linkId := 65535 } } }).setPcu
    { bench.pcu with last := some (peerFrame false), peer := .paired }

def turned (q : RequestSide) (g : Option RequestMode) : State :=
  (linked.setTma { linked.tma with peerSlot := g }).setPcu { linked.pcu with req := q, grant := g }

theorem witness_TurnFieldsRule :
    let bytes := (peerFrame true).bytes
    let quiet : PeerFrame := { peerFrame true with req := none, grant := false }
    let runs (s : State) (ok : State → Bool) : Bool := ends (exec (.peerFrame bytes) s) ok
    PeerFrame.parse bytes = some (peerFrame true) ∧ PeerFrame.parse quiet.bytes = some quiet ∧
      linked.pcu.last = some (peerFrame false) ∧ (peerFrame false).phase ≠ (peerFrame true).phase ∧
      (linked.pfl.status ≠ .reading ∧ judgedPeer linked.pfl.link (peerFrame true) = .paired) ∧
      linked.acr.state = .opened ∧ (linked.setAcr (record .closed 1 [])).acr.state = .closed ∧
      (turned .none none).TurnLaw ∧ (turned (.requesting .unit .cwV) none).TurnLaw ∧
      (turned (.holding .unit .cwV true .settling .cwH) none).TurnLaw ∧
      (turned (.deferred .unit .cwV) (some .cwH)).TurnLaw ∧
      runs (turned .none none) (fun t => t.pcu.grant == some .cwH && t.tma.peerSlot == some .cwH) = true ∧
      runs (turned (.requesting .unit .cwH) none) (fun t =>
        t.pcu.req == .holding .unit .cwH false .matched .cwH && t.pcu.grant == none) = true ∧
      ends (exec (.peerFrame quiet.bytes) (turned (.holding .unit .cwV true .settling .cwH) none)) (fun t =>
        t.pcu.req == .none) = true ∧
      ends (exec (.peerFrame quiet.bytes) (turned (.deferred .unit .cwV) (some .cwH))) (fun t =>
        t.pcu.req == .requesting .unit .cwV && t.pcu.grant == none && t.tma.peerSlot == none) = true ∧
      matchShown (peerFrame true) .cwV = .different := by decide +kernel

/-- This end CLOSING on a HANDOVER step in MEASURE, its digest that of an empty record. -/
def closing : State :=
  (linked.setPle (doing .handover .measure).ple).setAcr { record .closing 1 [] with localDigest := some 0xFFFF }

theorem witness_HandoverRules :
    let a : Acr := record .opened 3 [entry 1 .fail, { entry 2 .waived with kind := .waiver, step := none, ref := some 1 }]
    let ready : PeerFrame := { peerFrame true with ind := .ready, digest := 7, grant := false, req := none }
    let s := doing .handover .prepare
    let longer := s.setPle { s.ple with length := 2 }
    (a.entries = [] ++ entry 1 .fail :: a.entries.tail ∧ (entry 1 .fail).kind = .stepResult ∧
        (entry 1 .fail).superseded = false ∧ (entry 1 .fail).step.map StepTag.index = some 0 ∧
        a.governing 0 = some .waived ∧ a.governing 1 = none) ∧
      (s.Doing (oneStep .handover) (stepCtx .prepare) ∧ s.ple.state = .running ∧ s.standing (oneStep .handover) = [] ∧
        ((List.range (s.ple.length - 1)).filter fun i =>
          s.acr.governing i != some .pass && s.acr.governing i != some .waived) = [] ∧
        ((List.range (longer.ple.length - 1)).filter fun i =>
          longer.acr.governing i != some .pass && longer.acr.governing i != some .waived) = [0] ∧
        65534 < (record .opened 65535 []).next ∧ (oneStep .handover).channel = none ∧
        (oneStep .handover).localMode = none ∧ (oneStep .handover).farModeIn none = none) ∧
      ((oneStep .handover).over (stepCtx .measure).elapsed = false ∧
        (doing .handover .measure).heldChannel (oneStep .handover) (stepCtx .measure) = none) ∧
      PeerFrame.parse ready.bytes = some ready ∧ judgedPeer closing.pfl.link ready = .paired ∧
      (closing.acr.state = .closing ∧ ready.ind ≠ .none ∧ ready.echo = closing.acr.localDigest ∧
        closing.acr.storable = true ∧ closing.Doing (oneStep .handover) (stepCtx .measure) ∧ closing.TurnLaw) ∧
      ends (exec (.peerFrame ready.bytes) closing) (fun t =>
        t.acr.state == .closed && t.ple.state == .closed && t.acr.peerDigest == some 7) = true := by decide +kernel

/-- A LEVEL step that asks for a far and a local mode, and a plan that holds it. -/
def needy : Step := { oneStep .level with farMode := some .cwH, locMode := some .traffic }

def holding (x : Step) (c : StepCtx) (s : State) : State :=
  s.setPle { s.ple with table := some x :: List.replicate 31 none, ctx := some c }

/-- No report of this kind raises a cause for an ALIGN step in a phase. -/
theorem sample_raises_nothing (s : State) (p : StepPhase) (k : Cause) :
    ¬raises s (oneStep .align) none p false (.sample .mh) k := by
  cases k <;> simp [raises, Report.leavesPaired, Report.offBranch]

theorem witness_CauseRules :
    let c : StepCtx := { stepCtx .measure with reached := true }
    let s := (holding needy c (doing .level .measure)).setTma { bench.tma with mute := { h := true, v := false } }
    let t := holding needy c (suspended .level)
    let raised (r : Report) (k : Cause) : Prop := raises s needy none .measure true r k
    (s.Doing needy c ∧ s.ple.state = .running ∧ c.half = none ∧ c.phase = .measure ∧ c.reached = true) ∧
      (raised .maskChange .unitMute ∧ raised .txFault .txFault ∧ raised (.farMatch .different) .remoteMode ∧
        raised (.turnState (some (.plan, .grantWithdrawn))) .remoteMode ∧
        raised (.turnState (some (.plan, .holdExpired))) .peerLoss ∧ raised (.peerState .paired .solo) .peerLoss ∧
        raised (.branchOff .mh) .sourceLoss ∧ raised .abort .installerAbort ∧
        raises s (oneStep .align) none .measure true .presenceLoss .installerAbort) ∧
      (t.Doing needy c ∧ t.ple.state = .suspended ∧ t.ple.susp = some suspension ∧ .txFault ∉ suspension.causes ∧
        .unitMute ∈ suspension.causes) ∧
      (paused.ple.state = .paused ∧ paused.ple.pauseRec.map PauseRec.seen = some [.peerLoss] ∧
        paused.stepAt 0 = some (oneStep .wait)) ∧
      bench.ple.state.underWay = false ∧ bench.ple.todo = none ∧ bench.reports = [] ∧
      (bench.setReports [.txFault, .abort]).reports = .txFault :: [.abort] ∧
      (bench.setTodo (some .settle)).ple.todo = some .settle := by
  refine ⟨by decide, ⟨?_, ?_, ?_, ?_, ?_, ?_, ?_, ?_, ?_⟩, by decide, by decide, by decide⟩ <;> simp only [raises] <;> decide

theorem witness_PhaseEntries :
    let f : StepChannel := { channel := 2, quantity := .level .mh, interval := 1000 }
    let s := doing .level .prepare
    let c := stepCtx .prepare
    let withChannel (q : Quantity) : Step := { oneStep .level with channel := some { f with quantity := q } }
    let full : ChanRec := { chan with pageSize := 64, pageCount := 32, first := 0 }
    bench.ple.state ≠ .running ∧
      (s.ple.state = .running ∧ s.stepAt 0 = some (oneStep .level) ∧ (oneStep .align).kind = .align ∧
        (doing .align .prepare).stepAt 0 = some (oneStep .align) ∧ (oneStep .align).branches = .mh :: [] ∧
        .mh = bench.ptu.pointing ∧ .mh ≠ (bench.setPtu { bench.ptu with pointing := .mv }).ptu.pointing) ∧
      (s.Doing (oneStep .level) c ∧ (oneStep .level).lossBranches.filter s.isOff = [] ∧ s.tma.settle ≠ .fault ∧
        (oneStep .level).mutedBy s.tma.mute = false ∧ (oneStep .level).kind ≠ .handover ∧ (oneStep .level).channel = none) ∧
      (({ oneStep .level with branches := [.mv] } : Step).lossBranches.filter s.isOff = [.mv] ∧
        needy.mutedBy { h := true, v := false } = true ∧ (withTma { bench.tma with settle := .fault }).tma.settle = .fault) ∧
      ((withChannel (.level .mh)).channel = some f ∧ c.held.channel = false ∧ s.sourceFits (.level .mh) = true ∧
        firstFit (s.chu.regions (some 2)) 128 = some 0 ∧ s.sourceFits (.level .dh) = false ∧
        firstFit ((s.setChannel 3 (some full)).chu.regions (some 2)) 128 = none) ∧
      (¬(∀ b ∈ (oneStep .level).settleBranches, (s.pfl.branch b).dwell ≤ (s.point b).stable) ∧
        ∀ b ∈ (oneStep .level).settleBranches,
          (s.pfl.branch b).dwell ≤ ((s.setPoint .mh { PointRec.powerOn with stable := 20 }).point b).stable) ∧
      ((oneStep .level).over (stepCtx .measure).elapsed = false ∧ (oneStep .level).over 2 = true ∧
        ((oneStep .xpd).kind = .xpd ∧ (oneStep .xpd).pols = some .both) ∧
        (doing .wait .measure).waitHolds (oneStep .wait) = false) ∧
      (doing .wait .measure).WaitMet { oneStep .wait with wait := some .turnFree } := by
  refine ⟨by decide, by decide, by decide, by decide, by decide +kernel, by decide +kernel, by decide, ?_⟩
  exact .inr ⟨rfl, rfl, rfl⟩

theorem witness_ProgressRules :
    ((doing .align .prepare).Doing (oneStep .align) (stepCtx .prepare) ∧ (doing .align .prepare).ple.state = .running ∧
        ∀ k, ¬raises (doing .align .prepare) (oneStep .align) none .prepare false (.sample .mh) k) ∧
      ((doing .align .settle).Doing (oneStep .align) (stepCtx .settle) ∧ .mh ∈ (oneStep .align).settleBranches ∧
        ∀ k, ¬raises (doing .align .settle) (oneStep .align) none .settle false (.sample .mh) k) ∧
      ((doing .errtest .measure).Doing (oneStep .errtest) (stepCtx .measure) ∧ (oneStep .errtest).kind = .errtest ∧
        ∀ k, ¬raises (doing .errtest .measure) (oneStep .errtest) none .measure false (.testEnd .complete) k) ∧
      ((doing .wait .measure).Doing (oneStep .wait) (stepCtx .measure) ∧ (oneStep .wait).kind = .wait ∧
        (∀ k, ¬raises (doing .wait .measure) (oneStep .wait) none .measure false (.turnState none) k) ∧
        ¬(doing .wait .measure).WaitMet (oneStep .wait) ∧
        (doing .wait .measure).WaitMet { oneStep .wait with wait := some .turnFree }) := by
  refine ⟨⟨by decide, by decide, fun k => sample_raises_nothing _ _ k⟩,
    ⟨by decide, by decide, fun k => sample_raises_nothing _ _ k⟩, ⟨by decide, by decide, fun k => ?_⟩,
    by decide, by decide, fun k => ?_, ?_, .inr ⟨rfl, rfl, rfl⟩⟩
  · cases k <;> simp [raises, Report.leavesPaired, Report.offBranch]
  · cases k <;> simp [raises, Report.leavesPaired, Report.offBranch]
  · simp [State.WaitMet, oneStep]

/-- R178: what is absent is sent as zeros of its shortest form, presence byte included (log 25). -/
theorem test_absent_records :
    payloadSize { suspension with causes := [] }.fields = suspRecordSize ∧
      payloadSize (PauseRec.mk .pause ⟨0, 1, 0⟩ ⟨0, true⟩ []).fields = pauseRecordSize ∧
      payloadSize ((stepCtx .measure).fields (oneStep .handover)) = stepRecordSize ∧
      payloadSize (Step.fields { oneStep .handover with branches := [] }) = stepEntrySize ∧
      payloadSize (positionFields none) = 1 + stepEntrySize := by decide

theorem witness_PlanTimersComplete :
    bench.Settled ∧ bench.current = none ∧ ¬(bench.ple.state = .suspended) ∧
      (∀ p ∈ [StepPhase.prepare, .settle, .measure], (doing .level p).Doing (oneStep .level) (stepCtx p) ∧
        (doing .level p).ple.state = .running ∧ (stepCtx p).phase = p ∧ (stepCtx p).phaseTimer.isSome = true ∧
        (stepCtx p).measureTimer.isSome = true) ∧
      (oneStep .level).over 1 = false ∧ (oneStep .level).over 2 = true ∧
      ((oneStep .xpd).kind = .xpd ∧ (oneStep .xpd).pols = some .both ∧
        ({ stepCtx .measure with half := some .h } : StepCtx).half = some .h) ∧
      (suspended .level).Doing (oneStep .level) (stepCtx .measure) ∧ (suspended .level).ple.state = .suspended ∧
      (suspended .level).ple.limitTimer.isSome = true ∧ (suspended .level).ple.susp = some suspension ∧
      bench.acr.storable = true ∧ (withAcr (record .opened 65536 [])).acr.storable = false := by decide +kernel

/-! ## Witnesses: ports -/

theorem witness_PresenceCompletes :
    let away := bench.setPif { bench.pif with present := false }
    let mine := (withChan { chan with owner := .installer }).setEtu (testing (some .installer) .running)
    away.Settled ∧ away.pif.present = false ∧ bench.pif.present = true ∧
      mine.channel 2 = some { chan with owner := .installer } ∧ mine.channel 3 = none ∧
      mine.etu.test.owner = some .installer ∧ mine.etu.test.active = true ∧
      (withChan chan).channel 2 = some chan ∧ (withEtu (testing (some .unit) .running)).etu.test.owner ≠ some .installer ∧
      (withEtu (testing (some .installer) .stopped)).etu.test.active = false ∧
      (withPcu { bench.pcu with req := .requesting .installer .cwH }).pcu.req.requester = some .installer ∧
      (withPcu { bench.pcu with req := .requesting .installer .cwH }).pcu.releasedSide = .none ∧
      bench.pcu.req.requester ≠ some .installer := by decide

theorem witness_PortEventsComplete :
    let all : PortRec := { queued 0xFFF 1 with response := some reply, refusal := some ⟨2, 1⟩, inService := some 1 }
    let r : PortRec := { queued 0xFFF 1 with response := some reply }
    ((PortRec.reset 0xFFF).toSend = none ∧ all.begun = none ∧ all.toSend = some .response ∧
      all.content .response = some (.response reply) ∧ (OutFrame.response reply).bytes.length = 6 ∧
      ({ all with response := none } : PortRec).toSend = some .refusal ∧ (all.content .refusal).isSome = true ∧
      (queued 0xFFF 1).toSend = some .notice ∧ (queued 0xFFF 1).content .notice = some (.notice notice false) ∧
      ({ all with begun := some .notice } : PortRec).toSend = some .notice) ∧
      (bench.pif.present = true ∧ bench.iptMode = 0 ∧ (onMode 2 bench).iptMode = 2 ∧ (onMode 1 bench).iptMode = 1) ∧
      ((PortRec.reset 0).begun.bind (PortRec.reset 0).content) = none ∧
      ((withMeter { r with begun := some .response }).port .installer).begun = some .response ∧
      r.content .response = some (.response reply) ∧ (PortRec.reset 0).queue = [] ∧
      r.content .notice = some (.notice notice false) ∧ (PortRec.reset 0).toSend = none ∧ r.toSend = some .response ∧
      FrameKind.response ≠ .notice := by decide

/-- A full queue loses its oldest notice, or the one behind it while its first is being sent; an idle installer port
begins to send. -/
theorem witness_PortEventsComplete_posting :
    let full (begun : Bool) : State := withUnit { queued 0xFFF 16 with headBegun := begun }
    let told (begun : Bool) : PortRec := ((full begun).post .profileStatus []).port .unit
    let new : Notice := { kind := .profileStatus, payload := [] }
    ((full true).port .unit).mask.getLsbD (NoticeKind.num .profileStatus - 1) = true ∧
      (0#16).getLsbD (NoticeKind.num .profileStatus - 1) = false ∧ ((full true).port .unit).queue.length = 16 ∧
      (told false).queue = List.replicate 15 notice ++ [new] ∧ (told true).queue = List.replicate 15 notice ++ [new] ∧
      (told true).headBegun = true ∧ (told true).overflow = true ∧ (bench.port .unit).queue.length < 16 ∧
      (bench.pif.present = true ∧ bench.iptMode ≠ 1 ∧ (bench.port .installer).begun = none) ∧
      (((withMeter (PortRec.reset 0xFFF)).post .profileStatus []).port .installer).begun = some .notice ∧
      bench.attention = false ∧ (full false).attention = true ∧ (queued 0xFFF 1).content .refusal = none := by
  decide +kernel

/-- The bytes of SET_TEMPERATURE with -40 (R179, R183) reach the queue on every transport. -/
theorem witness_TransportsCarryFrames :
    let bytes : List Byte := [0x32, 0, 2, 0xFF, 0xD8]
    let i (gap : Bool) : Instr := .setTemperature
      { port := .installer, declared := 2, carried := 2, fits := true, coded := true, gap := gap } (-40)
    (decodeRequest .installer true bytes = some (i true) ∧ decodeRequest .installer false bytes = some (i false) ∧
        (decodeRequest .unit false bytes).isSome = true ∧ frameComplete bytes = true ∧ bench.pif.present = true) ∧
      (bench.unitTransaction (0x57 :: bytes)).pending = (decodeRequest .unit false bytes).toList ∧
      (bench.iptMode = 0 ∧ ((bench.asyncBytes none ((20, 0x7E) :: bytes.map fun b => (0, b))).1.pending = [i true])) ∧
      ((onMode 1 bench).iptMode = 1 ∧
        ((onMode 1 bench).busWrite 0x2C (0x81 :: 0x00 :: bytes)).pending = [.noticeAcknowledge, i false]) ∧
      ((onMode 2 bench).iptMode = 2 ∧
        ((onMode 2 bench).words none (frameWords bytes)).1.pending = [i false]) ∧
      (PortRec.reset 0).next = none ∧ (queued 0xFFF 1).next = some (.notice notice false) ∧
      ((withMeter { queued 0xFFF 1 with response := some reply, begun := some .response }).port .installer).begun =
        some .response := by decide +kernel

/-- R176 and R177: while ABSENT the installer port sends nothing, and the idle word stands on mode 2 alone; a start byte
after 20 ms ends the disregarding. -/
theorem test_installer_line :
    let away := (onMode 2 bench).setPif { bench.pif with present := false }
    let deaf := bench.setPif { bench.pif with resync := true }
    away.wordSends = [] ∧ (onMode 2 bench).wordSends = [0] ∧ bench.wordSends = [] ∧
      (onMode 1 bench).busSends 0x2D 2 = [] ∧ (onMode 1 bench).busSends 0x2C 2 = [0, 0] ∧
      (deaf.asyncByte none 20 0x7E).1.pif.resync = false ∧ (deaf.asyncByte none 19 0x7E).1.pif.resync = true ∧
      ends (exec .frameGapTimeout deaf) (fun t => !t.pif.resync) = true := by decide +kernel

/-! ## Witnesses: requests -/

theorem witness_StatusRequestsComplete :
    bench.Serves fromUnit ∧ bench.Serves fromMeter ∧ Quantity.ofArgs 11 0 1 = none ∧ Quantity.ofArgs 1 2 0 = none ∧
      Quantity.ofArgs 1 2 1 = some (.level .dh) ∧ bench.readable (.level .dh) = false ∧
      bench.readable (.level .mv) = true ∧ bench.figure (.level .mv) = none ∧ bench.readable (.level .mh) = true ∧
      (bench.figure (.level .mh)).isSome = true ∧ bench.acr.entries = [] ∧
      ((record .opened 2 [entry 1 .pass]).entries.filter fun e => decide (1 ≤ e.seq)) ≠ [] := by decide

/-- Of three members of 4 bytes two fit in a room of 11, and all of them in one of 12. -/
theorem witness_StatusRequestsComplete_cut :
    let xs : List (List Field) := List.replicate 3 [.u 4 7]
    cutTo 11 xs (xs.take 2) ∧ cutTo 12 xs xs :=
  ⟨⟨2, by decide⟩, ⟨3, by decide⟩⟩

theorem witness_FigureRule :
    let s := (bench.setBranchRec .mv { (bench.branch .mv) with active := true, seed := some seedMH }).setPcu
      { bench.pcu with last := some (peerFrame true), peer := .paired }
    s.seed .mh = some seedMH ∧ s.seed .mv = some seedMH ∧ s.seed .dh = none ∧ (s.figure (.xpd .h)).isSome = true ∧
      s.figure (.xpd .v) = none ∧ ((s.sampleOf (.farSmoothed .mh)).map Sample.value = some (-1200) ∧
        bench.sampleOf (.farSmoothed .mh) = none) ∧
      ((∀ b, Quantity.level .mh ≠ .farSmoothed b) ∧
        ∀ p, Quantity.level .mh ≠ .errInterval p ∧ Quantity.level .mh ≠ .xpd p) := by
  refine ⟨by decide, by decide, by decide, by decide, by decide, by decide, ?_, fun p => ⟨?_, ?_⟩⟩
  all_goals
    intros
    intro h
    cases h

theorem witness_BranchRequestsComplete :
    (bench.Admits fromMeter ∧ bench.fittedBranch 2 = none ∧ bench.fittedBranch 5 = none ∧
      bench.fittedBranch 0 = some .mh ∧ .mh = bench.ptu.pointing ∧ bench.fittedBranch 1 = some .mv ∧
      .mv ≠ bench.ptu.pointing) ∧
      bench.ServesUnit fromUnit ∧ (bench.branch .mh).active = true ∧ (bench.branch .mv).active = false ∧
      (withChan chan).channel 2 = some chan ∧ .mh ∈ chan.quantity.formedFrom ∧ .mv ∉ chan.quantity.formedFrom := by decide

theorem witness_BindCompletes :
    bench.Admits fromUnit ∧ (bindArgs.hold < 2 ∧ 1 ≤ bindArgs.scale ∧ bindArgs.scale ≤ 2 ∧ bindArgs.quantity = 2) ∧
      ¬({ bindArgs with scale := 3 } : BindArgs).scale ≤ 2 ∧ (withChan chan).channel 2 = some chan ∧
      ownedFrom .installer chan.owner false = true ∧ ownedFrom .unit chan.owner false = false ∧ bench.channel 0 = none ∧
      Quantity.ofArgs bindArgs.quantity bindArgs.source bindArgs.scale = some (.smoothed .mh false) ∧
      bindArgs.policy < 2 ∧ pageShapeOk bindArgs.pageSize bindArgs.pageCount = true ∧ pageShapeOk 8 32 = false ∧
      bench.sourceFits (.smoothed .mh false) = true ∧ bench.sourceFits (.smoothed .dv false) = false ∧
      firstFit (bench.chu.regions none) (3 * 8) = some 0 ∧
      firstFit ((withChan chan).chu.regions none) (31 * 64) = none ∧ (withChan chan).channel 0 = none ∧
      max 1 (min 60000 0) ≠ 0 := by decide

theorem witness_BindCompletes_sources :
    Quantity.ofArgs 2 1 2 = some (.smoothed .mv true) ∧ Quantity.ofArgs 5 9 5 = some (.xpd .h) ∧
      Quantity.ofArgs 10 1 1 = some (.errInterval .v) ∧ (withChan chan).sourceFits (.xpd .h) = true ∧
      (withChan chan).sourceFits (.divDiff .h) = false := by decide

/-- R47, steps 3 and 4, with R178: an interval of 0 is clamped, and the lack of room then answers NO_SPACE with CLAMPED. -/
theorem test_no_space_carries_clamped :
    let a : BindArgs := { bindArgs with interval := 0, pageSize := 64, pageCount := 31 }
    ends (exec (.bind fromUnit a) (withChan chan)) (fun t =>
      (t.port .unit).response.map (fun r => (r.status, r.clamped)) == some (.noSpace, true)) = true := by decide +kernel

theorem witness_ChannelRequestsComplete :
    let r (st : ChanState) : ChanRec := { chan with state := st }
    bench.Admits fromUnit ∧ bench.channel 2 = none ∧ (withChan chan).channel 2 = some chan ∧
      ownedFrom .installer chan.owner false = true ∧ (withChan chan).Admits fromMeter ∧
      reaches (withChan (r .bound)) fromUnit 2 (r .bound) false ∧
      (∀ b ∈ (r .bound).quantity.formedFrom, (bench.branch b).active = true) ∧ (r .bound).budget ≠ some 0 ∧
      ({ r .bound with budget := some 0 } : ChanRec).budget = some 0 ∧
      reaches (withChan (r (.halted .command))) fromUnit 2 (r (.halted .command)) false ∧
      reaches (withChan chan) fromUnit 2 chan false ∧
      ¬(∀ b ∈ (Quantity.level .mv).formedFrom, (bench.branch b).active = true) := by decide

theorem witness_StreamRequestsComplete :
    let left : ChanRec := { chan with stream := none }
    let ready (st : ChanState) : ChanRec := { chan with state := st, pages := [.ready header [⟨-1, {}⟩], .free, .free] }
    (bench.Admits fromUnit ∧ bench.stream .unit = none ∧ ((withStream .unit chan).stream .unit).isSome = true ∧
      (withStream .unit chan).Admits fromUnit ∧ reaches (withStream .unit chan) fromUnit 2 chan true ∧
      chan.stream = some .unit ∧ reaches (withChan left) fromUnit 2 left true ∧ left.stream ≠ some .unit ∧
      ownedFrom .installer chan.owner true = true) ∧
      bench.Serves fromUnit ∧ (withStream .unit chan).stream .unit = some { quantum := 2, current := some 2, run := 1 } ∧
      (withStream .unit chan).chooseChannel .unit { quantum := 2, current := some 2, run := 1 } = none ∧
      (withStream .unit (ready .done)).chooseChannel .unit { quantum := 2, current := some 2, run := 1 } =
        some (2, { quantum := 2, current := some 2, run := 2 }) ∧
      (withStream .unit (ready .done)).channel 2 = some (ready .done) ∧ (ready .done).oldestReady = some 0 ∧
      (ready .done).pages[0]? = some (.ready header [⟨-1, {}⟩]) ∧ (ready .done).hold = false ∧
      (ready .running).state ≠ .done := by decide +kernel

/-- The only READY page of a ring of three lies one or two pages on from the one after the last filled. -/
theorem witness_StreamRequestsComplete_ring :
    let r : ChanRec := { chan with fill := some 1, pages := [.free, .ready header [], .free] }
    pageAfter r = 2 ∧ pageOn r 0 2 ∧ pageOn r 1 0 ∧ pageOn r 2 1 ∧ r.oldestReady = some 1 ∧
      ∀ n < 2, ∀ j < 3, pageOn r n j → r.pages[j]? ≠ some (.ready header []) := by
  unfold pageOn; decide

theorem witness_TestRequestsComplete :
    bench.Admits fromUnit ∧ bench.Admits fromMeter ∧ Pols.ofNum 2 = some .both ∧ Pols.ofNum 3 = none ∧
      bench.etu.test.owner ≠ some .plan ∧ bench.etu.test.state ≠ .running ∧
      (testing (some .plan) .running).test.owner = some .plan ∧
      ((testing (some .unit) .paused).test.owner = some .unit ∧ (testing (some .unit) .paused).test.state = .paused) ∧
      (withEtu (testing (some .unit) .running)).Admits fromMeter ∧
      (testing (some .unit) .running).tested .h = true ∧ (testing (some .unit) .running).tested .v = false := by decide

theorem witness_TransmitRequestsComplete :
    bench.Admits fromMeter ∧ RequestMode.ofNum 5 = some .off ∧ RequestMode.ofNum 6 = none ∧ bench.ServesUnit fromUnit ∧
      (3#8).toNat < 4 ∧ 4 ≤ (4#8).toNat ∧
      ({ h := (0#8).getLsbD 0, v := (0#8).getLsbD 1 } : PerPol Bool) = bench.tma.mute ∧
      ({ h := (3#8).getLsbD 0, v := (3#8).getLsbD 1 } : PerPol Bool) ≠ bench.tma.mute ∧ bench.tma.settle ≠ .fault ∧
      (withTma { bench.tma with settle := .fault }).ServesUnit fromUnit := by decide

theorem witness_TransmitRequestsComplete_slots :
    let x (a b c : Option RequestMode) : Tma := { bench.tma with peerSlot := a, planSlot := b, instSlot := c }
    (x (some .cwH) (some .off) (some .off)).winner = .peer ∧ (x none (some .cwV) (some .off)).winner = .plan ∧
      (x none none (some .pattern)).winner = .installer ∧ (x none none none).winner = .default ∧
      (outputsOf (.traffic, .off) 200).freeze = none ∧ (outputsOf (.cw, .off) 200).freeze = some 200 := by decide

theorem witness_TurnRequestsComplete :
    let turn (q : RequestSide) (g : Option RequestMode) : State :=
      withPcu { bench.pcu with peer := .paired, req := q, grant := g }
    bench.Admits fromUnit ∧ RequestMode.ofNum 5 = some .off ∧ bench.pcu.req = .none ∧ bench.pcu.peer ≠ .paired ∧
      (turn .none none).pcu.peer = .paired ∧ (turn .none (some .cwH)).pcu.grant.isSome = true ∧
      (turn (.requesting .unit .cwH) none).pcu.req.requester = some .unit ∧ Party.unit ≠ Port.party .installer ∧
      Port.party .unit = .unit ∧ (turn (.deferred .unit .cwH) (some .cwV)).pcu.req = .deferred .unit .cwH ∧
      (turn (.holding .unit .cwH false .matched .cwH) none).pcu.req = .holding .unit .cwH false .matched .cwH ∧
      (turn (.holding .unit .cwH true .matched .cwH) none).pcu.req = .holding .unit .cwH true .matched .cwH ∧
      (turn (.requesting .plan .cwH) none).pcu.req.requester = some .plan := by decide

theorem witness_PlanTableRequestsComplete :
    let bad : RawStep := { rawStep with kind := 8 }
    bench.Admits fromUnit ∧ [rawStep] ≠ [] ∧ bench.ple.state = .idle ∧ (doing .wait .measure).ple.state ≠ .idle ∧
      (doing .wait .measure).Admits fromUnit ∧ 31 + [rawStep].length ≤ 32 ∧
      (match bench.stepsOf 31 [rawStep] with
        | .ok xs => xs.length == 1
        | .error _ => false) = true ∧
      (match bench.stepsOf 31 [bad] with
        | .ok _ => false
        | .error i => i == 31) = true ∧
      bench.ple.table[0]? = some none ∧ (paused.ple.table[0]? ≠ some none ∧ (1 : Nat) ≤ 32) ∧
      bench.ple.state.underWay = false ∧ paused.ple.state.underWay = true ∧ paused.Admits fromUnit := by decide +kernel

/-- Each kind's entry is held, one with a field of another kind is refused, and values outside their ranges are moved. -/
theorem witness_PlanTableRequestsComplete_entries :
    let s := bench.setBranchRec .dh { bench.branch .dh with fitted := true }
    let r (k : Nat) (branches : Option (List Nat)) (pol : Option Nat) : RawStep :=
      { rawStep with kind := k, branches := branches, pol := pol, wait := none }
    let held (x : RawStep) : Option Bool := (s.stepOf x).map Prod.snd
    let counter : RawChannel := { channel := 1, quantity := 10, source := 0, scale := 3, interval := 0 }
    (held (r 0 (some [1, 0, 1]) none) = some false ∧ held (r 1 (some [0]) none) = some false ∧
        held (r 2 none (some 2)) = some false ∧ held (r 3 (some [0, 2]) none) = some false ∧
        held { r 4 none (some 0) with farMode := some 4 } = some false ∧ held (r 5 (some [0]) none) = some true ∧
        held rawStep = some false ∧ held (r 7 none none) = some false) ∧
      (held (r 3 (some [0, 1]) none) = none ∧ held (r 0 (some [3]) none) = none ∧ held (r 1 (some []) none) = none ∧
        held { r 4 none (some 0) with farMode := some 3 } = none ∧ held { rawStep with duration := none } = none ∧
        held { rawStep with limits := { noLimits with tolerance := some 1 } } = none ∧
        held { rawStep with onFail := 2, repeats := 8 } = none ∧ held { rawStep with kind := 8 } = none) ∧
      ((s.stepOf { r 1 (some [0]) none with duration := some 601 }).map fun x => (x.1.duration, x.2)) =
        some (some 600, true) ∧
      ((s.stepOf { r 1 (some [0]) none with channel := some counter }).map fun x => x.2) = some false ∧
      [rawStep] = [] ++ rawStep :: [] ∧ [rawStep].map s.stepOf = ([rawStep].filterMap s.stepOf).map some ∧
      s.stepOf { rawStep with kind := 8 } = none := by decide +kernel

theorem witness_PlanStartsComplete :
    let loaded (k : StepKind) : State := bench.setPle (plan .loaded k none)
    (loaded .wait).Admits fromUnit ∧ (loaded .wait).ple.state = .loaded ∧ (loaded .wait).ple.length ≤ 1 ∧
      0 < (loaded .wait).ple.length ∧ (loaded .wait).planFault = none ∧
      (bench.setPle { plan .loaded .handover none with
        table := some (oneStep .handover) :: some (oneStep .wait) :: List.replicate 30 none, length := 2 }).planFault = some 0 ∧
      bench.ple.state ≠ .loaded ∧ bench.ple.state ≠ .paused ∧ bench.ple.state ≠ .halted ∧ paused.ple.state = .paused ∧
      paused.ple.pauseRec.isSome = true ∧ (halted (some (entry 1 .pass)) 65536).Admits fromUnit ∧
      (halted (some (entry 1 .pass)) 65536).ple.state = .halted ∧
      (halted (some (entry 1 .pass)) 65536).acr.storable = false ∧
      (halted (some (entry 1 .pass)) 65536).ple.halt = some .recordFull ∧
      (halted (some (entry 1 .pass)) 65535).acr.storable = true ∧
      (halted (some (entry 1 .pass)) 65535).acr.held = some (entry 1 .pass) ∧ (halted none 1).acr.held = none := by
  decide +kernel

/-- The first step of a plan passes and its second, a SOAK step without a threshold, does not; a halt's held result is
stored over the earlier result of its step. -/
theorem witness_PlanStartsComplete_checks :
    let two := bench.setPle { plan .loaded .wait none with
      table := some (oneStep .wait) :: some (oneStep .soak) :: List.replicate 30 none, length := 2 }
    let s := (halted none 2).setAcr { record .opened 2 [entry 1 .fail] with held := some (entry 0 .pass) }
    two.ple.table[0]? = some (some (oneStep .wait)) ∧ two.ple.table[1]? = some (some (oneStep .soak)) ∧
      (two.pfl.branch .mh).threshold = none ∧ two.ple.state = .loaded ∧ two.planFault = some 1 ∧
      (s.ple.halt = some .recordFull ∧ s.acr.held = some (entry 0 .pass) ∧ s.acr.storable = true) ∧
      ((s.acr.withEntry (entry 0 .pass)).entries.map fun e => (e.seq, e.superseded)) = [(1, true), (2, false)] := by
  decide +kernel

theorem witness_SuspensionRequestsComplete :
    let muted := (suspended .align).setTma { bench.tma with mute := { h := true, v := false } }
    bench.Admits fromUnit ∧ bench.ple.state.underWay = false ∧ (doing .align .measure).Admits fromUnit ∧
      (doing .align .measure).ple.state.underWay = true ∧ (suspended .align).Admits fromUnit ∧
      (suspended .align).ple.state = .suspended ∧ (suspended .align).Doing (oneStep .align) (stepCtx .measure) ∧
      (suspended .align).ple.susp = some suspension ∧
      suspension.causes.filter ((suspended .align).causeActive (oneStep .align)) = [] ∧
      ({ suspension with causes := [.txFault] } : SuspRec).causes.filter
        (((suspended .align).setTma { bench.tma with settle := .fault }).causeActive (oneStep .align)) ≠ [] ∧
      muted.ple.susp = some suspension ∧ (oneStep .align).branches = .mh :: [] ∧ (oneStep .level).kind ≠ .align := by
  decide +kernel

/-- Each cause that R149's table can call active is, in some state, and a channel of another number is left alone. -/
theorem witness_SuspensionRequestsComplete_causes :
    let x : Step := { needy with channel := some { channel := 2, quantity := .smoothed .mh false, interval := 1000 } }
    let c : StepCtx := { stepCtx .measure with held := { channel := true, localMode := true, turn := true, test := false } }
    let active (s : State) (k : Cause) : Prop := s.causeActive x k = true
    active (withTma { bench.tma with mute := { h := false, v := true } }) .unitMute ∧
      active (withTma { bench.tma with settle := .fault }) .txFault ∧
      active (withPcu { bench.pcu with req := .holding .plan .cwH true .different .cwH }) .remoteMode ∧
      active bench .peerLoss ∧ active (bench.setBranchRec .mh { bench.branch .mh with active := false }) .sourceLoss ∧
      ¬active bench .installerAbort ∧ holdsChannel x c 2 ∧ ¬holdsChannel x c 3 ∧ chan.state ≠ .bound := by
  refine ⟨by decide, by decide, by decide, by decide, by decide, by decide, ⟨rfl, _, rfl, rfl⟩, ?_, by decide⟩
  rintro ⟨-, f, hf, hc⟩
  cases hf
  cases hc

theorem witness_AcceptancesComplete :
    let peaked := (doing .align .measure).setPoint .mh
      { PointRec.powerOn with pred := .level (-520) false, dev := some 0, cls := .main,
                              peak := some { held := -520, marker := -520, uncal := false } }
    ((doing .wait .measure).ple.position = some 0 ∧ (doing .wait .measure).ple.length ≤ 0 + 1 ∧
        (oneStep .wait).onFail = .stop ∧ ({ oneStep .wait with onFail := .repeatStep 1 } : Step).onFail = .repeatStep 1 ∧
        ({ stepCtx .measure with repeats := 1 } : StepCtx).repeats > 0 ∧ (stepCtx .measure).repeats = 0 ∧
        0 + 1 < ({ (doing .wait .measure).ple with length := 2 } : Ple).length ∧
        ({ (doing .wait .measure).ple with pauseReq := true } : Ple).pauseReq = true) ∧
      bench.Admits fromUnit ∧ bench.current = none ∧ (doing .align .measure).Admits fromUnit ∧
      (doing .align .measure).Doing (oneStep .align) (stepCtx .measure) ∧ (doing .align .measure).ple.state = .running ∧
      (stepCtx .measure).phase = .measure ∧ (oneStep .align).kind = .align ∧ (oneStep .level).kind ≠ .wait ∧
      (oneStep .wait).kind = .wait ∧ (∀ b ∈ (oneStep .align).branches, peaked.atPeak b 5 = true) ∧
      (∃ b ∈ (oneStep .align).branches, (doing .align .measure).atPeak b 5 = false) ∧
      (doing .wait .measure).waitHolds (oneStep .wait) = false ∧
      (doing .wait .measure).waitHolds { oneStep .wait with wait := some .turnFree } = true := by decide +kernel

theorem witness_PlanEndsComplete :
    let owned := (withChan { chan with owner := .plan }).setEtu (testing (some .plan) .running)
    bench.Admits fromUnit ∧ bench.ple.state.stoppable = false ∧ paused.Admits fromUnit ∧ paused.ple.state = .paused ∧
      (halted (some (entry 1 .pass)) 65535).Admits fromUnit ∧ (halted (some (entry 1 .pass)) 65535).ple.state = .halted ∧
      (halted (some (entry 1 .pass)) 65535).acr.storable = true ∧ (halted none 1).acr.held = none ∧
      (doing .wait .measure).Doing (oneStep .wait) (stepCtx .measure) ∧ (doing .wait .measure).Admits fromUnit ∧
      (suspended .wait).Doing (oneStep .wait) (stepCtx .measure) ∧ bench.Serves fromUnit ∧ bench.acr.state ≠ .closed ∧
      (withAcr (record .closed 1 [])).acr.state = .closed ∧ owned.channel 2 = some { chan with owner := .plan } ∧
      owned.etu.test.owner = some .plan ∧ owned.etu.test.active = true ∧
      (withPcu { bench.pcu with req := .requesting .plan .cwH }).pcu.req.requester = some .plan := by decide

theorem witness_PlanEndsComplete_record :
    let s := (halted none 2).setAcr { record .opened 2 [entry 1 .fail] with held := some (entry 0 .pass) }
    let full := halted (some (entry 0 .pass)) 65536
    (s.acr.held = some (entry 0 .pass) ∧ s.acr.storable = true ∧ s.Admits fromUnit) ∧
      (full.acr.held.isSome = true ∧ full.acr.storable = false) ∧ closing.acr.state = .closing ∧ closing.Serves fromUnit ∧
      closing.acr.storable = true ∧ (doing .wait .measure).acr.storable = true := by decide +kernel

theorem witness_HeldValuesComplete :
    bench.ServesUnit fromUnit ∧ bench.Admits fromMeter ∧ 4096 ≤ (4096#16).toNat ∧ (4095#16).toNat < 4096 ∧
      bench.disregards fromMeter = false ∧ (bench.port .installer).inService = none ∧ bench.pfl.status ≠ .reading ∧
      badLength fromMeter = false := by decide

theorem witness_RecordRequestsComplete :
    let s (st : RecordState) (n : Nat) : State := withAcr (record st n [entry 1 .fail])
    (s .opened 2).ServesUnit fromUnit ∧ (s .opened 2).acr.state = .opened ∧
      ((s .opened 2).acr.entries.find? fun e => e.seq == 1) = some (entry 1 .fail) ∧
      (∀ e ∈ (s .opened 2).acr.entries, e.seq ≠ 2) ∧
      ((entry 1 .fail).kind = .stepResult ∧ (entry 1 .fail).superseded = false ∧ (entry 1 .fail).verdict = some .fail ∧
        ∀ w ∈ (s .opened 2).acr.entries, ¬(w.kind = .waiver ∧ w.ref = some 1)) ∧
      ¬(96 ≤ (s .opened 65535).acr.entries.length ∨ 65536 ≤ (s .opened 65535).acr.next) ∧
      65536 ≤ (s .opened 65536).acr.next ∧ (entry 1 .pass).verdict ≠ some .fail ∧ (s .closed 2).acr.state = .closed ∧
      (s .closing 2).acr.state ≠ .closed ∧ 96 ≤ (record .closed 97 (List.replicate 96 (entry 1 .fail))).entries.length := by
  decide

theorem witness_LoadProfileCompletes :
    bench.ServesUnit fromUnit ∧ (doing .wait .measure).ple.state = .running ∧
      (doing .wait .measure).ServesUnit fromUnit ∧ bench.ple.state = .idle ∧
      rejectionOf image = some { reason := .check, offset := none } ∧ rejectionOf (chainImage 120 0) = none ∧
      (bench.acr.state == .opened && !bench.acr.entries.isEmpty) = false ∧
      (let a := (withAcr (record .opened 65536 [entry 1 .pass])).acr
       (a.state == .opened && !a.entries.isEmpty) = true ∧ a.storable = false) ∧
      (withAcr (record .opened 65535 [entry 1 .pass])).acr.storable = true ∧
      (bench.branch .mh).active = true ∧
      ends (exec (.loadProfile fromUnit (linkImage 0x0E)) bench) (fun t =>
        t.pfl.status == .port && !t.pfl.link.fitted.mh && t.pfl.link.fitted.mv && !(t.branch .mh).active) = true ∧
      (withPcu { bench.pcu with peer := .paired, last := some (peerFrame true) }).pcu.peer = .paired ∧
      (withPcu { bench.pcu with peer := .heard }).pcu.last = none ∧
      (let s := bench.setPoint .mh { bench.point .mh with cls := .main }
       s.ServesUnit fromUnit ∧ (s.branch .mh).active = true ∧ (s.point .mh).cls ≠ .none) := by decide +kernel

/-- R112 and R105: a turn that is silent already starts its hold time again and reports no change (log 78). -/
theorem test_silence_restart :
    let s := withPcu { bench.pcu with silent := true, hold := some 5, req := .holding .unit .cwH false .matched .cwH }
    s.startSilence.reports = [] ∧ s.startSilence.pcu.hold = some 300000 ∧ s.startSilence.pif = s.pif := by decide

end Sys2Proof.Tests
end

section
/-! SUPPORT. O7 and O8, the transmitter and the turn (R86, R91, R105). A step is followed from the state `s` in which it
begins to the state `t` reached so far: what it owes to the two laws at `t` is `s.Upholds t`. Each operation of the model
has one lemma, of its own name, that carries this on, and its proof has the shape of the operation. The laws themselves
are at stake only in the arbiter's and the turn's operations, which stand here; the other blocks follow below. -/

namespace Sys2Proof.Machine

variable {s t u : State}

/-! ## What a step owes -/

/-- The two laws are kept from `s` to `t`, and an end that granted nothing at `s`, its record CLOSING or CLOSED there, grants
nothing at `t`. The record is judged at `s`, so that a step that opens it owes no less. -/
structure State.Upholds (s t : State) : Prop where
  mute : s.MuteLaw → t.MuteLaw
  turn : s.TurnLaw → t.TurnLaw
  ungranted : s.acr.state ≠ .opened → s.pcu.grant = none → t.pcu.grant = none

namespace State.Upholds

theorem refl (s : State) : s.Upholds s := ⟨id, id, fun _ => id⟩

/-- Both laws speak of the arbiter's record and the two sides of the turn alone. -/
theorem of_link (h : s.Upholds t) (tma : u.tma = t.tma) (req : u.pcu.req = t.pcu.req)
    (grant : u.pcu.grant = t.pcu.grant) : s.Upholds u := by
  refine ⟨fun hs => ?_, fun hs => ?_, fun ho hg => ?_⟩
  · rw [State.MuteLaw, tma]; exact h.mute hs
  · rw [State.TurnLaw, tma, req, grant]; exact h.turn hs
  · rw [grant]; exact h.ungranted ho hg

theorem ite {c : Prop} [Decidable c] (ht : s.Upholds t) (hu : s.Upholds u) : s.Upholds (if c then t else u) := by
  split
  · exact ht
  · exact hu

theorem foldl {α : Type} {f : State → α → State} (hf : ∀ {u} a, s.Upholds u → s.Upholds (f u a)) (xs : List α)
    (h : s.Upholds t) : s.Upholds (xs.foldl f t) := by
  induction xs generalizing t with
  | nil => exact h
  | cons a rest ih => exact ih (hf a h)

/-! ## The other blocks' records, notices, reports and responses -/

section
variable (h : s.Upholds t)
include h

theorem setBlu {x : Blu} : s.Upholds (t.setBlu x) := h.of_link rfl rfl rfl
theorem setPtu {x : Ptu} : s.Upholds (t.setPtu x) := h.of_link rfl rfl rfl
theorem setChu {x : Chu} : s.Upholds (t.setChu x) := h.of_link rfl rfl rfl
theorem setEtu {x : Etu} : s.Upholds (t.setEtu x) := h.of_link rfl rfl rfl
theorem setPle {x : Ple} : s.Upholds (t.setPle x) := h.of_link rfl rfl rfl
theorem setAcr {x : Acr} : s.Upholds (t.setAcr x) := h.of_link rfl rfl rfl
theorem setPif {x : Pif} : s.Upholds (t.setPif x) := h.of_link rfl rfl rfl
theorem setPfl {x : Pfl} : s.Upholds (t.setPfl x) := h.of_link rfl rfl rfl
theorem setReports {x : List Report} : s.Upholds (t.setReports x) := h.of_link rfl rfl rfl
theorem setDraws {n : Nat} : s.Upholds (t.setDraws n) := h.of_link rfl rfl rfl
theorem setPort {p : Port} {x : PortRec} : s.Upholds (t.setPort p x) := h.of_link rfl rfl rfl

theorem report {r : Report} : s.Upholds (t.report r) := h.setReports

theorem kick : s.Upholds t.kick := h.of_link (by simp) (by simp) (by simp)

theorem post {k : NoticeKind} {fs : List Field} : s.Upholds (t.post k fs) := h.of_link (by simp) (by simp) (by simp)

theorem answer {p : Port} {code : Nat} {r : Reply} : s.Upholds (t.answer p code r) :=
  h.of_link (by simp) (by simp) (by simp)

theorem deliver {p : Port} {k : FrameKind} {f : OutFrame} : s.Upholds (t.deliver p k f) :=
  h.of_link (by simp) (by simp) (by simp)

theorem endResync {p : Port} : s.Upholds (t.endResync p) := h.of_link (by simp) (by simp) (by simp)

theorem startResync {p : Port} : s.Upholds (t.startResync p) := h.of_link (by simp) (by simp) (by simp)

theorem refuseBusy {p : Port} {code : Nat} : s.Upholds (t.refuseBusy p code) := by
  cases p
  · exact h.setPort.kick
  · exact h.setPort

end

/-- What the plan engine does to the other blocks is not reported back to it (log 22). -/
theorem hush {act : State → State} (h : s.Upholds (act t)) : s.Upholds (t.hush act) := h.setReports

end State.Upholds

/-! ## The arbiter (R86 to R94) -/

@[simp] theorem State.clearStable_tma (s : State) : s.clearStable.tma = s.tma := rfl
@[simp] theorem State.clearStable_pcu (s : State) : s.clearStable.pcu = s.pcu := rfl

@[simp] theorem State.driveOutputs_tma (s : State) (d : Driven) :
    (s.driveOutputs d).tma =
      { s.tma with driven := d, change := (s.tma.change + 1) % 256, settle := .settling, timer := some 2000 } := by
  simp only [State.driveOutputs]
  split <;> simp [State.postTx, State.report]

@[simp] theorem State.driveOutputs_pcu (s : State) (d : Driven) : (s.driveOutputs d).pcu = s.pcu := by
  simp only [State.driveOutputs]
  split <;> simp [State.postTx, State.report]

/-- In FAULT nothing is driven anew. -/
theorem State.arbitrate_fault (h : s.tma.settle = .fault) : s.arbitrate = s := by
  simp [State.arbitrate, h]

/-- Outside FAULT the outputs are those of the arbitration result, whether they were driven already or are now. -/
theorem State.arbitrate_driven (h : s.tma.settle ≠ .fault) :
    s.arbitrate.tma.driven = outputsOf s.tma.result s.pfl.link.commPower ∧ s.arbitrate.tma.settle ≠ .fault := by
  unfold State.arbitrate
  by_cases hd : outputsOf s.tma.result s.pfl.link.commPower = s.tma.driven
  · simp [hd, h]
  · simp [hd, h]

@[simp] theorem State.arbitrate_mute (s : State) : s.arbitrate.tma.mute = s.tma.mute := by
  simp only [State.arbitrate]; split <;> simp

@[simp] theorem State.arbitrate_peerSlot (s : State) : s.arbitrate.tma.peerSlot = s.tma.peerSlot := by
  simp only [State.arbitrate]; split <;> simp

@[simp] theorem State.arbitrate_pcu (s : State) : s.arbitrate.pcu = s.pcu := by
  simp only [State.arbitrate]; split <;> simp

/-- Whatever the winner asks for, the arbitration result is OFF on a muted polarization (R86). -/
theorem outputsOf_result_dark (x : Tma) (power : Int) :
    (x.mute.h = true → (outputsOf x.result power).h = .off) ∧
      (x.mute.v = true → (outputsOf x.result power).v = .off) := by
  constructor <;> intro h <;> simp [outputsOf, Tma.result, h]

/-- Driving the arbitration result meets R86 from any state, CLEAR_TX_FAULT's included. -/
theorem State.driveOutputs_result_muteLaw (s : State) :
    (s.driveOutputs (outputsOf s.tma.result s.pfl.link.commPower)).MuteLaw := by
  simpa [State.MuteLaw] using outputsOf_result_dark s.tma s.pfl.link.commPower

/-- Arbitration leaves a muted polarization dark, however the mask and the slots have changed before it. -/
theorem State.arbitrate_muteLaw
    (h : s.tma.settle = .fault → s.tma.driven.h = .off ∧ s.tma.driven.v = .off) : s.arbitrate.MuteLaw := by
  by_cases hf : s.tma.settle = .fault
  · obtain ⟨hh, hv⟩ := h hf
    rw [State.arbitrate_fault hf]
    exact ⟨fun _ => hh, fun _ => hv, h⟩
  · obtain ⟨hd, hs⟩ := State.arbitrate_driven hf
    obtain ⟨hh, hv⟩ := outputsOf_result_dark s.tma s.pfl.link.commPower
    simp only [State.MuteLaw, State.arbitrate_mute, hd]
    exact ⟨hh, hv, fun hfault => absurd hfault hs⟩

namespace State.Upholds

/-- New slots but the PEER slot, a new mask or a new timer, with the arbitration that follows. -/
theorem arbitrated (h : s.Upholds t) {x : Tma} (settle : x.settle = t.tma.settle) (driven : x.driven = t.tma.driven)
    (peer : x.peerSlot = t.tma.peerSlot) : s.Upholds (t.setTma x).arbitrate := by
  refine ⟨fun hs => State.arbitrate_muteLaw ?_, fun hs => ?_, fun ho hg => ?_⟩
  · obtain ⟨-, -, hfault⟩ := h.mute hs
    rw [State.setTma_tma, settle, driven]; exact hfault
  · simpa [State.TurnLaw, peer] using h.turn hs
  · simpa using h.ungranted ho hg

section
variable (h : s.Upholds t)
include h

theorem setPlanSlot {m : Option RequestMode} : s.Upholds (t.setPlanSlot m) := h.arbitrated rfl rfl rfl

theorem setInstSlot {m : Option RequestMode} : s.Upholds (t.setInstSlot m) := h.arbitrated rfl rfl rfl

theorem postTx : s.Upholds t.postTx := h.post

theorem setMask {m : PerPol Bool} : s.Upholds (t.setMask m) :=
  ite h (h.arbitrated (x := { t.tma with mute := m }) rfl rfl rfl).postTx.report

theorem txProfile {first : Bool} : s.Upholds (t.txProfile first) := by
  unfold State.txProfile
  split
  · exact h.arbitrated rfl rfl rfl
  · exact h.arbitrated (x := t.tma) rfl rfl rfl

/-- A settle report leaves the driven outputs, and FAULT is not left by it. -/
theorem settled {change : Nat} : s.Upholds (t.settled change) := by
  unfold State.settled
  split
  · have hset : s.Upholds (t.setTma { t.tma with settle := .settled, timer := none }) := by
      refine ⟨fun hs => ?_, h.turn, h.ungranted⟩
      obtain ⟨hh, hv, -⟩ := h.mute hs
      exact ⟨hh, hv, fun hf => absurd hf (by simp)⟩
    exact hset.postTx.report
  · exact h

theorem clearStable : s.Upholds t.clearStable := h.setPtu

/-- FAULT drives OFF where anything was radiated (R89). -/
theorem txFault : s.Upholds t.txFault := by
  unfold State.txFault
  extract_lets x radiated faulted cleared
  have hfaulted : s.Upholds faulted := by
    refine ⟨fun hs => ?_, h.turn, h.ungranted⟩
    have dark : faulted.tma.driven.h = .off ∧ faulted.tma.driven.v = .off := by
      by_cases hr : radiated = true
      · simp [faulted, hr, outputsOf]
      · have hdark : t.tma.driven.h = .off ∧ t.tma.driven.v = .off := by simpa [radiated, x] using hr
        simpa [faulted, hr, x] using hdark
    exact ⟨fun _ => dark.1, fun _ => dark.2, fun _ => dark⟩
  exact (hfaulted.clearStable.ite hfaulted).postTx.report

theorem clearFault : s.Upholds t.clearFault := by
  refine ⟨fun _ => State.driveOutputs_result_muteLaw t, fun hs => ?_, fun ho hg => ?_⟩
  · simpa [State.clearFault, State.TurnLaw] using h.turn hs
  · simpa [State.clearFault] using h.ungranted ho hg

end

end State.Upholds

/-! ## The turn (R105 to R118) -/

@[simp] theorem Pcu.settleSilence_req (p : Pcu) : p.settleSilence.req = p.req := by
  unfold Pcu.settleSilence; split <;> rfl

@[simp] theorem Pcu.settleSilence_grant (p : Pcu) : p.settleSilence.grant = p.grant := by
  unfold Pcu.settleSilence; split <;> rfl

@[simp] theorem State.turnChanged_pcu (s : State) (reason : Option TurnReason) (ended : Option (Party × TurnReason)) :
    (s.turnChanged reason ended).pcu = s.pcu := by simp [State.turnChanged, State.report]

namespace State.Upholds

theorem turnChanged (h : s.Upholds t) {reason : Option TurnReason} {ended : Option (Party × TurnReason)} :
    s.Upholds (t.turnChanged reason ended) := h.post.report

/-- A new PCU record whose two sides are as they were. -/
theorem setPcu (h : s.Upholds t) {x : Pcu} (req : x.req = t.pcu.req := by rfl)
    (grant : x.grant = t.pcu.grant := by rfl) : s.Upholds (t.setPcu x) := h.of_link rfl req grant

/-- A new request side, which may stand beside GRANTED where this end grants. -/
theorem setReq (h : s.Upholds t) {x : Pcu}
    (side : t.pcu.grant.isSome = true → t.pcu.req.besideGrant = true → x.req.besideGrant = true)
    (grant : x.grant = t.pcu.grant := by rfl) : s.Upholds (t.setPcu x) := by
  refine ⟨h.mute, fun hs => ?_, fun ho hg => grant.trans (h.ungranted ho hg)⟩
  obtain ⟨hslot, hside⟩ := h.turn hs
  refine ⟨hslot.trans grant.symm, fun hx => ?_⟩
  have hg : t.pcu.grant.isSome = true := grant ▸ hx
  exact side hg (hside hg)

/-- A new grant side, with the PEER slot that follows it (R91). -/
theorem setGrant (h : s.Upholds t) {x : Pcu} {m : Option RequestMode}
    (side : x.grant.isSome = true → (t.pcu.grant.isSome = true → t.pcu.req.besideGrant = true) →
      x.req.besideGrant = true)
    (ungranted : s.acr.state ≠ .opened → t.pcu.grant = none → x.grant = none) (slot : m = x.grant := by rfl) :
    s.Upholds ((t.setPcu x).setPeerSlot m) := by
  refine ⟨fun hs => State.arbitrate_muteLaw ?_, fun hs => ?_, fun ho hg => ?_⟩
  · obtain ⟨-, -, hfault⟩ := h.mute hs
    exact hfault
  · obtain ⟨-, hside⟩ := h.turn hs
    have hx := fun hg => side hg hside
    simpa [State.TurnLaw, State.setPeerSlot, slot] using hx
  · simpa [State.setPeerSlot] using ungranted ho (h.ungranted ho hg)

theorem compose (h : s.Upholds t) : s.Upholds t.compose := h.setPcu

theorem endRequest (h : s.Upholds t) {reason : TurnReason} : s.Upholds (t.endRequest reason) := by
  unfold State.endRequest
  split
  · exact h
  · exact (h.setReq (by simp [RequestSide.besideGrant]) (by simp)).turnChanged

/-- A deferred request is raised only once nothing is granted (R109). -/
theorem raiseDeferred (h : s.Upholds t) (hg : t.pcu.grant = none) : s.Upholds t.raiseDeferred := by
  unfold State.raiseDeferred
  split
  · exact (h.setReq (by simp [hg])).turnChanged
  · exact h

theorem endGrant (h : s.Upholds t) {reason : TurnReason} : s.Upholds (t.endGrant reason) := by
  unfold State.endGrant
  split
  · exact h
  · exact (h.setGrant (by simp) (by simp) (by simp)).turnChanged.raiseDeferred (by simp [State.setPeerSlot])

/-- A grant is given while the record is OPEN, to an end that neither requests nor holds (R107). -/
theorem giveGrant (h : s.Upholds t) {m : RequestMode} (hreq : t.pcu.req.besideGrant = true)
    (hopen : s.acr.state = .opened) : s.Upholds (t.giveGrant m) :=
  (h.setGrant (x := { t.pcu with grant := some m }) (fun _ _ => hreq) fun ho => absurd hopen ho).turnChanged

theorem formMatch (h : s.Upholds t) {f : PeerFrame} : s.Upholds (t.formMatch f) := by
  unfold State.formMatch
  split
  · next hreq =>
      extract_lets formed src set
      have hset : s.Upholds set := h.setReq (by simp [hreq, RequestSide.besideGrant])
      exact hset.ite hset.report
  · exact h

/-- A request is granted while it is REQUESTING, which no end is while it grants itself (R106). -/
theorem takeGrant (h : s.Upholds t) {f : PeerFrame} : s.Upholds (t.takeGrant f) := by
  unfold State.takeGrant
  split
  · next hreq _ => exact (h.setReq (by simp [hreq, RequestSide.besideGrant])).turnChanged.report
  · exact h.formMatch
  · exact h.endRequest
  · exact h.endRequest
  · exact h
  · exact h
  · exact h

/-- The peer's request is granted only by an end whose record is OPEN (R107, R108). -/
theorem takeRequest (h : s.Upholds t) {f : PeerFrame} (hacr : t.acr.state = .opened → s.acr.state = .opened) :
    s.Upholds (t.takeRequest f) := by
  unfold State.takeRequest
  split
  · next hg _ =>
      split
      · exact h
      exact (h.setGrant (x := { t.pcu with grant := some _ }) (fun _ hside => hside (by simp [hg]))
        (by simp [hg])).turnChanged
  · exact h.endGrant
  · exact h
  · split
    · next hreq =>
        split
        · next hopen => exact h.giveGrant (by simp [hreq, RequestSide.besideGrant]) (hacr hopen)
        · exact h
    · split
      · next hopen =>
          exact (h.setReq (by simp [RequestSide.besideGrant])).turnChanged.giveGrant
            (by simp [RequestSide.besideGrant]) (hacr hopen.2)
      · exact h
    · exact h
    · exact h

theorem endSilence (h : s.Upholds t) : s.Upholds t.endSilence := ite h.setPcu.turnChanged h

theorem startSilence (h : s.Upholds t) : s.Upholds t.startSilence := by
  unfold State.startSilence
  extract_lets silent
  have hsilent : s.Upholds (silent t) := ite h.setPcu h.setPcu.turnChanged
  split
  · exact hsilent
  · exact hsilent
  · exact h.endRequest
  · exact h

theorem updateFarSources (h : s.Upholds t) : s.Upholds t.updateFarSources := ite h h.setPtu.clearStable

theorem setPeer (h : s.Upholds t) {new : PeerState} : s.Upholds (t.setPeer new) := by
  unfold State.setPeer
  extract_lets old src moved far posted told updated
  have hposted : s.Upholds posted := h.setPcu.post
  have hupdated : s.Upholds updated := (hposted.ite hposted.report).updateFarSources
  exact h.ite (hupdated.startSilence.ite hupdated)

theorem checkPairing (h : s.Upholds t) : s.Upholds t.checkPairing := by
  unfold State.checkPairing
  split
  · exact h
  · exact h.setPeer
  · exact h

theorem peerSilent (h : s.Upholds t) : s.Upholds t.peerSilent := h.setPcu.setPeer

theorem holdExpired (h : s.Upholds t) : s.Upholds t.holdExpired := by
  unfold State.holdExpired
  extract_lets src stopped
  have hstopped : s.Upholds stopped := h.setPcu
  split
  · exact hstopped.endGrant
  · exact hstopped.endRequest
  · exact hstopped

/-- A request side is replaced by one of its own kind; a new request is DEFERRED where this end grants (R110). -/
theorem askTurn (h : s.Upholds t) {who : Party} {m : RequestMode} : s.Upholds (t.askTurn who m).1 := by
  unfold State.askTurn
  extract_lets src replace owned
  have hreplace : ∀ q : RequestSide, (t.pcu.grant.isSome = true → t.pcu.req.besideGrant = true → q.besideGrant = true) →
      s.Upholds (replace q).1 := fun q side => (h.setReq (x := { t.pcu with req := q }) side).turnChanged
  split
  · exact h
  · split
    · exact h
    · next hreq =>
        split
        · exact h
        · exact hreplace _ (by simp [hreq, RequestSide.besideGrant])
    · next hreq =>
        split
        · exact h
        · exact hreplace _ (by simp [hreq, RequestSide.besideGrant])
    · split
      · exact h
      · exact hreplace _ (by simp [RequestSide.besideGrant])
    · split
      · exact h
      · split
        · exact hreplace _ (by simp [RequestSide.besideGrant])
        · next hg => exact hreplace _ (fun hs => absurd hs hg)

theorem letGo (h : s.Upholds t) {reason : TurnReason} : s.Upholds (t.letGo reason) := by
  unfold State.letGo
  split
  · exact h.endRequest
  · exact h.endRequest
  · next hreq => exact h.endRequest.ite (h.setReq (by simp [hreq, RequestSide.besideGrant])).turnChanged
  · exact h
  · exact h

theorem releaseTurn (h : s.Upholds t) : s.Upholds t.releaseTurn := h.letGo

theorem releaseOf (h : s.Upholds t) {who : Party} : s.Upholds (t.releaseOf who) := ite h.releaseTurn h

theorem tearDownTurn (h : s.Upholds t) {who : Party} : s.Upholds (t.tearDownTurn who) := ite h.letGo h

theorem closeTurn (h : s.Upholds t) : s.Upholds t.closeTurn := h.letGo.endGrant

end State.Upholds

/-! What a frame does to the peer state and the request side leaves the record as it is, so that the grant is judged by
the record's state before the frame. -/

@[simp] theorem State.turnChanged_acr (s : State) (reason : Option TurnReason) (ended : Option (Party × TurnReason)) :
    (s.turnChanged reason ended).acr = s.acr := by simp [State.turnChanged, State.report]

@[simp] theorem State.endRequest_acr (s : State) (reason : TurnReason) : (s.endRequest reason).acr = s.acr := by
  unfold State.endRequest; split <;> simp

@[simp] theorem State.takeGrant_acr (s : State) (f : PeerFrame) : (s.takeGrant f).acr = s.acr := by
  have hform : (s.formMatch f).acr = s.acr := by
    simp only [State.formMatch]
    split
    · split <;> rfl
    · rfl
  unfold State.takeGrant
  split <;> simp [hform, State.report]

@[simp] theorem State.startSilence_acr (s : State) : s.startSilence.acr = s.acr := by
  simp only [State.startSilence]
  split
  · split <;> simp
  · split <;> simp
  · simp
  · rfl

@[simp] theorem State.updateFarSources_acr (s : State) : s.updateFarSources.acr = s.acr := by
  simp only [State.updateFarSources]; split <;> rfl

@[simp] theorem State.setPeer_acr (s : State) (new : PeerState) : (s.setPeer new).acr = s.acr := by
  unfold State.setPeer
  extract_lets old src moved far posted told updated
  have hupdated : updated.acr = s.acr := by
    unfold updated told; split <;> simp [posted, moved, State.report]
  split
  · rfl
  · split
    · rw [State.startSilence_acr, hupdated]
    · exact hupdated

/-- A frame is taken (R101): of its steps only REQUEST's can enter a grant. -/
theorem State.Upholds.takeFrame (h : s.Upholds t) {f : PeerFrame} (hacr : t.acr = s.acr) :
    s.Upholds (t.takeFrame f) := by
  unfold State.takeFrame
  extract_lets src timed heard paired turned
  have hheard : s.Upholds heard := ite h.setPcu.setPeer h.setPcu
  have hpaired : s.Upholds paired := hheard.ite hheard.setPeer
  have hrecord : paired.acr = s.acr := by
    have hheard : heard.acr = s.acr := by
      unfold heard; split <;> simp [timed, hacr]
    unfold paired; split <;> simp [hheard]
  have hturned : s.Upholds turned :=
    ite (hpaired.takeGrant.takeRequest (by simp [hrecord])).endSilence hpaired
  exact hturned.updateFarSources

end Sys2Proof.Machine
end

section
/-! SUPPORT. The other blocks: what each of their operations does to the transmitter and to the turn goes through the
operations above, in the order in which the operation calls them. -/

namespace Sys2Proof.Machine

variable {s t : State}

namespace State.Upholds

section
variable (h : s.Upholds t)
include h

/-! ## Levels and pointing (chapters 1 and 2) -/

theorem setBranchRec {b : Branch} {r : BranchRec} : s.Upholds (t.setBranchRec b r) := h.setBlu

theorem setPoint {b : Branch} {r : PointRec} : s.Upholds (t.setPoint b r) := h.setPtu

theorem emptyPeak {b : Branch} : s.Upholds (t.emptyPeak b) := h.setPoint

theorem driveAlignment {restart : Bool} : s.Upholds (t.driveAlignment restart) := (h.setDraws.ite h).setPtu

theorem pointAt {b : Branch} : s.Upholds (t.pointAt b) := ite h h.setPtu.driveAlignment

theorem startBurst : s.Upholds t.startBurst := ite h h.setPtu

theorem classChanged {b : Branch} {old : LobeClass} : s.Upholds (t.classChanged b old) := ite h.report.post h.report

theorem pointSample {b : Branch} {x : Seed} {seeding : Bool} : s.Upholds (t.pointSample b x seeding) := by
  unfold State.pointSample
  extract_lets w old pred dev raw r peak set classed driven
  have hclassed : s.Upholds classed := ite h.setPoint h.setPoint.classChanged
  exact ite (hclassed.driveAlignment.post.startBurst.ite hclassed.driveAlignment) hclassed

theorem pointLoss {b : Branch} : s.Upholds (t.pointLoss b) := by
  unfold State.pointLoss
  extract_lets old set classed
  have hclassed : s.Upholds classed := ite h.setPoint h.setPoint.classChanged
  exact ite hclassed.driveAlignment hclassed

theorem takeSample {b : Branch} {code : Nat} {lock : Bool} : s.Upholds (t.takeSample b code lock) :=
  h.setBranchRec.pointSample.setPcu.report

theorem goStale : s.Upholds t.goStale := h.setBlu

/-! ## Channels and streams (chapter 3) -/

theorem setChannel {c : Fin 8} {r : Option ChanRec} : s.Upholds (t.setChannel c r) := h.setChu

theorem moveChannel {c : Fin 8} {new : Option ChanRec} {cause : Option StateCause} :
    s.Upholds (t.moveChannel c new cause) := ite h.setChannel h.setChannel.post

theorem channelSample {c : Fin 8} {r : ChanRec} {x : Option Sample} : s.Upholds (t.channelSample c r x) :=
  h.moveChannel

theorem channelExpiry {c : Fin 8} : s.Upholds (t.channelExpiry c) := by
  unfold State.channelExpiry
  split
  · exact ite h.channelSample h
  · exact h

theorem channelClassify {p : Pol} {k : IntervalClass} {errored : Nat} :
    s.Upholds (t.channelClassify p k errored) := by
  refine foldl (fun c hu => ?_) _ h
  split
  · exact ite hu.channelSample hu
  · exact hu

theorem bindChannel {c : Fin 8} {owner : Party} {x : Shape} {r : State × Nat}
    (hr : t.bindChannel c owner x = some r) : s.Upholds r.1 := by
  unfold State.bindChannel at hr
  obtain ⟨first, -, rfl⟩ := Option.map_eq_some_iff.mp hr
  exact h.setChannel.post

theorem freeChannel {c : Fin 8} {cause : StateCause} : s.Upholds (t.freeChannel c cause) := h.moveChannel

theorem tearDown {owner : Party} : s.Upholds (t.tearDown owner) :=
  foldl (fun _ hu => ite hu.freeChannel hu) _ h

theorem bindFor {c : Fin 8} {owner : Party} {x : Shape} : s.Upholds (t.bindFor c owner x).1 := by
  unfold State.bindFor
  split
  · next hr => exact h.bindChannel hr
  · exact h

theorem planBind {c : Fin 8} {x : Shape} : s.Upholds (t.planBind c x).1 := by
  unfold State.planBind
  split
  · exact h
  · split
    · exact h.bindFor
    · exact h.freeChannel.bindFor
    · split
      · exact h
      · exact h.freeChannel.bindFor

theorem runChannel {c : Fin 8} {r : ChanRec} : s.Upholds (t.runChannel c r).1 := by
  simp only [State.runChannel]
  split
  · exact h
  · split
    · exact h.moveChannel.moveChannel
    · exact h.moveChannel

theorem haltChannel {c : Fin 8} {cause : HaltCause} : s.Upholds (t.haltChannel c cause).1 := by
  unfold State.haltChannel
  split
  · split
    · exact h.moveChannel
    · exact h
  · exact h

theorem resumeChannel {c : Fin 8} {r : ChanRec} : s.Upholds (t.resumeChannel c r).1 := by
  unfold State.resumeChannel
  split
  · exact h
  · exact h.moveChannel

theorem flushChannel {c : Fin 8} {r : ChanRec} : s.Upholds (t.flushChannel c r) := h.moveChannel

theorem channelsLose {b : Branch} : s.Upholds (t.channelsLose b) := by
  refine foldl (fun c hu => ?_) _ h
  split
  · exact ite hu.haltChannel hu
  · exact hu

theorem setStream {p : Port} {x : Option StreamRec} : s.Upholds (t.setStream p x) := h.setChu

theorem setMember {c : Fin 8} {p : Option Port} : s.Upholds (t.setMember c p) := by
  unfold State.setMember
  split
  · exact h.setChannel
  · exact h

theorem closeStreamOf {p : Port} : s.Upholds (t.closeStreamOf p) := h.setChu

/-! ## Tests (chapter 4) -/

theorem setCount {p : Pol} {c : CountRec} : s.Upholds (t.setCount p c) := h.setEtu

theorem setTest {x : TestRec} : s.Upholds (t.setTest x) := h.setEtu

theorem checkBlock {p : Pol} {bits : BitVec 2048} : s.Upholds (t.checkBlock p bits) := h.setCount

theorem classifyPol {percent : Nat} {p : Pol} : s.Upholds (t.classifyPol percent p) :=
  ite h.channelClassify.setCount h

theorem beginTest {owner : Party} {x : TestSetup} : s.Upholds (t.beginTest owner x) := h.setEtu

theorem postTestDone : s.Upholds t.postTestDone := h.post

theorem endTest {cause : EndCause} : s.Upholds (t.endTest cause) :=
  ite h.setEtu.postTestDone.report h.setEtu.postTestDone

theorem endActive {cause : EndCause} : s.Upholds (t.endActive cause) := ite h.endTest h

theorem releaseTest : s.Upholds t.releaseTest := h.setTest

theorem dropTest {owner : Party} {cause : EndCause} : s.Upholds (t.dropTest owner cause) :=
  ite h.endActive.releaseTest h

theorem closeTest : s.Upholds t.closeTest := ite h.endTest.releaseTest h

theorem planTest {pols : Pols} {duration : Nat} : s.Upholds (t.planTest pols duration) :=
  (h.endActive.ite h.endActive).beginTest

theorem planReleaseTest : s.Upholds t.planReleaseTest := ite h.endActive.releaseTest h

theorem pauseTest : s.Upholds t.pauseTest := ite h.setEtu h

theorem resumeTest : s.Upholds t.resumeTest := ite h.setEtu h

theorem testExpiry : s.Upholds t.testExpiry := by
  unfold State.testExpiry
  split
  · exact h
  · extract_lets classified src counted n told
    have hcounted : s.Upholds counted := h.classifyPol.classifyPol.setTest
    have htold : s.Upholds told := hcounted.report.ite hcounted
    exact ite (ite htold.endTest htold.setEtu) h

/-! ## The acceptance record (chapter 9) -/

theorem append {e : Entry} : s.Upholds (t.append e) := h.setAcr.post

theorem record {e : Entry} : s.Upholds (t.record e).1 := by
  unfold State.record
  split
  · exact h.append
  · exact h.setAcr

theorem recordOrDrop {e : Entry} : s.Upholds (t.recordOrDrop e).1 := by
  unfold State.recordOrDrop
  split
  · exact h.append
  · exact h

theorem storeHeld : s.Upholds t.storeHeld.1 := by
  simp only [State.storeHeld]
  split
  · exact h
  · split
    · exact h.setAcr.append
    · exact h.setAcr

theorem formDigest : s.Upholds t.formDigest := h.setAcr

theorem dropDigest : s.Upholds t.dropDigest := ite h.setAcr h

theorem acrReset : s.Upholds t.acrReset.1 := h.dropDigest.setAcr

theorem reopenRecord : s.Upholds t.reopenRecord := h.append.setAcr.setPle.post

/-! ## The plan engine: its record, suspension and conclusion (R133, R142 to R156) -/

theorem setCtx {c : Option StepCtx} : s.Upholds (t.setCtx c) := h.setPle

theorem setTodo {x : Option Todo} : s.Upholds (t.setTodo x) := h.setPle

theorem movePlan {new : PlanState} {reason : PlanReason} : s.Upholds (t.movePlan new reason) := h.setPle.post

theorem movePlanTo {new : PlanState} {reason : PlanReason} : s.Upholds (t.movePlanTo new reason) := ite h h.movePlan

theorem halt {r : HaltReason} : s.Upholds (t.halt r) := h.setPle.movePlan

theorem complete : s.Upholds t.complete := h.setPle.movePlan

theorem postSuspended : s.Upholds t.postSuspended := by
  unfold State.postSuspended
  split
  · exact h.post
  · exact h

theorem suspend {x : Step} {c : StepCtx} {cause : Cause} {branch : Option Branch} :
    s.Upholds (t.suspend x c cause branch) := by
  unfold State.suspend
  extract_lets r c' src marked halted paused kept
  have hhalted : s.Upholds halted := by
    unfold halted; split
    · exact h.setPle.haltChannel
    · exact h.setPle
  exact (ite hhalted.pauseTest.dropDigest hhalted.pauseTest).postSuspended.movePlan

theorem joinCause {cause : Cause} : s.Upholds (t.joinCause cause) := by
  unfold State.joinCause
  split
  · exact ite h h.setPle.postSuspended
  · exact h

theorem noteCause {cause : Cause} : s.Upholds (t.noteCause cause) := by
  unfold State.noteCause
  split
  · exact ite h h.setPle
  · exact h

theorem endSuspension : s.Upholds t.endSuspension := h.setPle

theorem postStepDone {x : Step} {c : StepCtx} {r : Result} {d : Disposition} :
    s.Upholds (t.postStepDone x c r d) := h.post

theorem release {x : Step} {c : StepCtx} : s.Upholds (t.release x c) := by
  unfold State.release
  extract_lets turned placed freed
  have hturned : s.Upholds turned := ite h.releaseOf h
  have hplaced : s.Upholds placed := ite hturned.setPlanSlot hturned
  have hfreed : s.Upholds freed := by
    unfold freed; split
    · exact hplaced.freeChannel
    · exact hplaced
  exact ite hfreed.planReleaseTest hfreed

theorem boundary {start : StepStart} : s.Upholds (t.boundary start) :=
  ite h.setPle.movePlan h.movePlanTo.setTodo

theorem nextStep : s.Upholds t.nextStep := ite h.boundary h.complete

theorem goOn {x : Step} {c : StepCtx} {v : Verdict} : s.Upholds (t.goOn x c v) := by
  unfold State.goOn
  split
  · exact h.nextStep
  · split
    · exact h.nextStep
    · exact h.halt
    · exact ite h.boundary h.halt

theorem conclude {x : Step} {c : StepCtx} {r : Result} {after : After} : s.Upholds (t.conclude x c r after) := by
  unfold State.conclude
  extract_lets c' r' ended recorded released
  have hreleased : s.Upholds released := h.endSuspension.setCtx.record.release.postStepDone
  split
  · split
    · exact hreleased.goOn
    · exact hreleased.nextStep
    · exact hreleased.halt
  · exact hreleased.halt

theorem finish {x : Step} {c : StepCtx} : s.Upholds (t.finish x c) := by
  unfold State.finish
  extract_lets r dropped
  have hdropped : s.Upholds dropped := h.dropDigest.ite h
  exact hdropped.conclude

/-! ## The plan engine: a step's phases (R127 to R132) -/

theorem alignStart {x : Step} : s.Upholds (t.alignStart x) := by
  unfold State.alignStart
  split
  · extract_lets emptied
    have hemptied : s.Upholds emptied := foldl (fun _ hu => hu.emptyPeak) x.branches h
    split
    · exact hemptied.pointAt
    · exact hemptied
  · exact h

theorem startStep {st : StepStart} : s.Upholds (t.startStep st) := by
  unfold State.startStep
  split
  · exact h.setPle.alignStart.setTodo
  · exact h

theorem ensureTurn {x : Step} {c : StepCtx} : s.Upholds (t.ensureTurn x c).1 := by
  unfold State.ensureTurn
  split
  · exact h
  · split
    · exact h
    · exact h.askTurn

theorem evalPrepare {x : Step} {c : StepCtx} : s.Upholds (t.evalPrepare x c) := ite h.setCtx.setTodo h

theorem takeChannel {x : Step} {c : StepCtx} : s.Upholds (t.takeChannel x c).1 := by
  unfold State.takeChannel
  split
  · split
    · exact h
    · extract_lets bound
      split
      · exact h.planBind
      · exact h.planBind
  · exact h

theorem takeLocal {x : Step} {c : StepCtx} : s.Upholds (t.takeLocal x c).1 := by
  unfold State.takeLocal
  split
  · split
    · exact h
    · exact h.setPlanSlot
  · exact h

theorem gather {x : Step} {c : StepCtx} : s.Upholds (t.gather x c) := by
  unfold State.gather
  split
  · exact h.conclude
  · exact ite h.takeChannel.conclude h.takeChannel.takeLocal.ensureTurn.setCtx.evalPrepare

theorem enterPrepare {x : Step} {c : StepCtx} : s.Upholds (t.enterPrepare x c) := by
  unfold State.enterPrepare
  extract_lets c' entered
  split
  · exact foldl (fun _ hu => hu.joinCause) _ h.setCtx.suspend
  · exact h.setCtx.gather

theorem evalSettle {x : Step} {c : StepCtx} : s.Upholds (t.evalSettle x c) := ite h.setCtx.setTodo h

theorem enterSettle {x : Step} {c : StepCtx} : s.Upholds (t.enterSettle x c) := h.setCtx.evalSettle

theorem testWait {x : Step} {c : StepCtx} : s.Upholds (t.testWait x c) := ite h.conclude h

theorem startChannel {x : Step} {c : StepCtx} : s.Upholds (t.startChannel x c) := by
  unfold State.startChannel
  split
  · exact ite h.resumeChannel h.runChannel
  · exact h

theorem startPlanTest {x : Step} {c : StepCtx} : s.Upholds (t.startPlanTest x c) :=
  ite (ite h.resumeTest h.planTest) h

theorem halfSwitch {x : Step} {c : StepCtx} : s.Upholds (t.halfSwitch x c) := by
  unfold State.halfSwitch
  extract_lets halted c' asked
  have hhalted : s.Upholds halted := by
    unfold halted; split
    · exact h.haltChannel
    · exact h
  exact hhalted.ensureTurn.setCtx.setTodo

theorem measured {x : Step} {c : StepCtx} : s.Upholds (t.measured x c) := ite h.halfSwitch h.finish

theorem enterMeasure {x : Step} {c : StepCtx} : s.Upholds (t.enterMeasure x c) := by
  unfold State.enterMeasure
  extract_lets started src c' digested entered
  have hstarted : s.Upholds started := h.startChannel.startPlanTest
  have hentered : s.Upholds entered := (hstarted.formDigest.ite hstarted).setCtx
  exact ite hentered.measured (ite hentered.testWait hentered)

theorem measureSecond {x : Step} {c : StepCtx} : s.Upholds (t.measureSecond x c) := ite h.setCtx.measured h.setCtx

theorem perform {x : Todo} : s.Upholds (t.perform x) := by
  unfold State.perform
  extract_lets cleared
  have hcleared : s.Upholds cleared := h.setTodo
  split
  · split
    · exact hcleared.startStep
    · split
      · split
        · exact hcleared.enterPrepare
        · exact hcleared.enterSettle
        · exact hcleared.enterMeasure
        · exact hcleared
      · exact hcleared
  · exact hcleared

end

theorem drive (n : Nat) (h : s.Upholds t) : s.Upholds (State.drive n t) := by
  induction n generalizing t with
  | zero => exact h
  | succ n ih =>
    unfold State.drive
    split
    · exact ih h.perform.hush
    · exact h

section
variable (h : s.Upholds t)
include h

/-! ## The plan engine: reports (R144 to R156) -/

theorem prepareAgain {x : Step} {c : StepCtx} : s.Upholds (t.prepareAgain x c) := by
  unfold State.prepareAgain
  extract_lets asked
  have hasked : s.Upholds asked.1 := by
    unfold asked; split
    · exact h
    · exact h.ensureTurn
  exact hasked.setCtx.evalPrepare

theorem wake {x : Step} {c : StepCtx} : s.Upholds (t.wake x c) := ite h.setCtx.testWait h

theorem progress {x : Step} {c : StepCtx} {r : Report} : s.Upholds (t.progress x c r) := by
  unfold State.progress
  split
  · exact ite h.prepareAgain h.wake
  · exact ite h.prepareAgain h.wake
  · exact ite h.evalPrepare h
  · exact ite h.evalPrepare h
  · exact ite h.evalSettle h
  · exact h.wake
  · exact ite h.setCtx h
  · exact ite h.finish h
  · exact h

theorem heed {r : Report} : s.Upholds (t.heed r) := by
  unfold State.heed
  split
  · split
    · extract_lets c' held
      have hheld : s.Upholds held := h.setCtx
      split
      · exact hheld.suspend
      · exact hheld.progress
    · exact h
  · split
    · extract_lets c' c'' held
      have hheld : s.Upholds held := h.setCtx
      split
      · exact hheld.joinCause
      · exact hheld
    · exact h
  · split
    · split
      · split
        · exact h.noteCause
        · exact h
      · exact h
    · exact h
  · exact h
  · exact h
  · exact h
  · exact h
  · exact h

theorem reactTo {rs : List Report} : s.Upholds (reactTo rs t) := foldl (fun _ hu => hu.heed.hush.drive _) rs h

theorem react : s.Upholds (react t) := (h.drive _).setReports.reactTo.setReports

/-! ## The plan engine: resets, the handover and the limits (R126, R129 to R132, R152, R168, R171) -/

theorem planReset : s.Upholds t.planReset.1 :=
  (hush (act := fun t =>
    (((t.setPle t.ple.cleared).setPlanSlot none).tearDownTurn .plan).tearDown .plan |>.dropTest .plan .reset)
    h.setPle.setPlanSlot.tearDownTurn.tearDown.dropTest).acrReset.movePlan

theorem closeOthers : s.Upholds t.closeOthers :=
  h.setPlanSlot.setInstSlot.closeTurn.tearDown.tearDown.closeTest

theorem completeHandover {x : Step} {c : StepCtx} {f : PeerFrame} : s.Upholds (t.completeHandover x c f) :=
  h.setAcr.append.setAcr.setPle.postStepDone.movePlan.closeOthers

theorem takeHandover {f : PeerFrame} : s.Upholds (t.takeHandover f) := by
  unfold State.takeHandover
  split
  · exact h
  · extract_lets src echoed
    have hechoed : s.Upholds echoed := ite h.setAcr h
    split
    · split
      · exact hush hechoed.completeHandover
      · exact hechoed
    · exact hechoed

theorem inPhase {phase : StepPhase} {act : State → Step → StepCtx → State} (hact : ∀ x c, s.Upholds (act t x c)) :
    s.Upholds (t.inPhase phase act) := by
  unfold State.inPhase
  split
  · exact ite (hact _ _).hush h
  · exact h

theorem abandon {after : After} : s.Upholds (t.abandon after) := by
  unfold State.abandon
  split
  · exact h.conclude.hush
  · exact h

/-! ## The profile (chapter 11) -/

theorem branchOff {b : Branch} : s.Upholds (t.branchOff b) := h.setBranchRec.pointLoss.channelsLose.setPcu.report

theorem branchOn {b : Branch} : s.Upholds (t.branchOn b) := ite h.setBranchRec.driveAlignment h.setBranchRec

theorem applyBranch {b : Branch} : s.Upholds (t.applyBranch b) :=
  ite (ite h.setBranchRec h.setBranchRec.setBranchRec) (ite h.setBranchRec.branchOff h.setBranchRec)

theorem applyProfile {v : Sections} {first : Bool} : s.Upholds (t.applyProfile v first) := by
  unfold State.applyProfile
  extract_lets src held branches applied composed
  have hbranches : s.Upholds branches := foldl (fun _ hu => hu.applyBranch) allBranches h.setPfl
  have happlied : s.Upholds applied := hbranches.txProfile.checkPairing
  exact ite happlied.compose.setEtu happlied

theorem postProfile : s.Upholds t.postProfile := h.post

theorem startUp {status : ProfileStatus} {crc : Option Check} {rejection : Option Rejection} {v : Sections} :
    s.Upholds (t.startUp status crc rejection v) := h.setPfl.applyProfile.postProfile

theorem startImage {image : List Byte} : s.Upholds (t.startImage image) := by
  unfold State.startImage
  split
  · exact h.startUp
  · exact h.startUp

theorem whileReading {act : State → State} (hact : s.Upholds (act t)) : s.Upholds (t.whileReading act) := ite hact h

/-! ## The ports (R175 to R182) -/

theorem setPresent {present : Bool} : s.Upholds (t.setPresent present) := h.setPif.setPort

theorem dropInstaller : s.Upholds t.dropInstaller :=
  h.setInstSlot.tearDown.closeStreamOf.dropTest.tearDownTurn.report

theorem readPort {p : Port} {clocked : Nat} : s.Upholds (t.readPort p clocked) := by
  unfold State.readPort
  split
  · exact ite h h.setPort
  · split
    · exact ite h h.setPort
    · exact ite h.deliver (ite h.setPort h)

theorem readBus {count : Nat} : s.Upholds (t.readBus count) := by
  unfold State.readBus
  extract_lets r
  split
  · split
    · exact ite h.setPort h
    · exact h
  · exact h.readPort

theorem acknowledge : s.Upholds t.acknowledge := by
  unfold State.acknowledge
  split
  · exact h.deliver
  · exact h

theorem finishFrame : s.Upholds t.finishFrame := by
  unfold State.finishFrame
  extract_lets r
  split
  · split
    · exact h.deliver
    · exact h
  · exact h

end

end State.Upholds
end Sys2Proof.Machine
end

section
/-! SUPPORT. Requests, commands and the step: each arm of `exec` cites the operation it runs, and a step is one command or
the expiries of a millisecond. -/

namespace Sys2Proof.Machine

variable {s t : State}

/-! ## Requests (R177 to R179) -/

/-- What a request's rule leaves owes no more than the state in which it is asked. -/
def State.UpholdsBy (s : State) (act : State → State × Reply) : Prop := ∀ u, s.Upholds u → s.Upholds (act u).1

namespace State.Upholds

/-- A request is refused by one of R177's checks, or its rule answers it. -/
theorem arrive (h : s.Upholds t) {f : ReqFrame} {code : Nat} {fits : Bool} {act : State → State × Reply}
    (hact : s.UpholdsBy act) : s.Upholds (t.arrive f code fits act) := by
  unfold State.arrive
  split
  · exact h
  · extract_lets taken answered
    split
    · exact h.endResync.refuseBusy
    · split
      · exact h.endResync.answer
      · split
        · exact h.endResync.startResync.answer
        · exact (hact taken h.endResync).answer

theorem serve (h : s.Upholds t) {f : ReqFrame} {code : Nat} {act : State → State × Reply} (hact : s.UpholdsBy act) :
    s.Upholds (t.serve f code act) := h.arrive hact

theorem serveUnit (h : s.Upholds t) {f : ReqFrame} {code : Nat} {act : State → State × Reply}
    (hact : s.UpholdsBy act) : s.Upholds (t.serveUnit f code act) := by
  refine h.arrive fun u hu => ?_
  split
  · exact hact u hu
  · exact hu

theorem ite_fst {c : Prop} [Decidable c] {a b : State × Reply} (ha : s.Upholds a.1) (hb : s.Upholds b.1) :
    s.Upholds (if c then a else b).1 := by
  split
  · exact ha
  · exact hb

/-- A request that is taken leaves the state its effect has left. -/
theorem took (h : s.Upholds t) : s.Upholds (take t).1 := h

end State.Upholds

namespace State.UpholdsBy

variable {f : ReqFrame} {act : State → State × Reply}

theorem unlessClosed (hact : s.UpholdsBy act) : s.UpholdsBy (unlessClosed f act) :=
  fun u hu => .ite_fst hu (.ite_fst (hact u hu) hu)

theorem ifCoded (hact : s.UpholdsBy act) : s.UpholdsBy (ifCoded f act) := fun u hu => .ite_fst (hact u hu) hu

theorem onChannel {n : Nat} {planToo : Bool} {act : Fin 8 → ChanRec → State → State × Reply}
    (hact : ∀ c r, s.UpholdsBy (act c r)) : s.UpholdsBy (onChannel f n planToo act) := by
  refine unlessClosed fun u hu => ?_
  split
  · exact hu
  · split
    · exact hu
    · exact .ite_fst hu (hact _ _ u hu)

end State.UpholdsBy

namespace State.Upholds

section
variable (h : s.Upholds t)
include h

/-! ### Levels and pointing (chapters 1 and 2) -/

theorem resetPeaks {target : Nat} : s.Upholds (t.resetPeaks target).1 := by
  unfold State.resetPeaks
  split
  · exact foldl (fun _ hu => hu.emptyPeak) _ h
  · split
    · exact h.emptyPeak
    · exact h

theorem choosePointing {branch : Nat} : s.Upholds (t.choosePointing branch).1 := by
  unfold State.choosePointing
  split
  · exact h.pointAt
  · exact h

theorem setBranchTo {branch state : Nat} : s.Upholds (t.setBranchTo branch state).1 := by
  unfold State.setBranchTo
  split
  · exact ite h (ite h.branchOn h.branchOff)
  · exact h

theorem readFigure {quantity branch scale : Nat} : s.Upholds (t.readFigure quantity branch scale).1 := by
  unfold State.readFigure
  split
  · exact h
  · split
    · split
      · exact h
      · exact h
    · exact h

/-! ### Channels, streams and tests (chapters 3 and 4) -/

theorem bindFrom {p : Port} {a : BindArgs} : s.Upholds (t.bindFrom p a).1 := by
  unfold State.bindFrom
  split
  · exact h
  · split
    · exact ite_fst h h
    · unfold State.bindFree
      split
      · exact h
      · split
        · exact h
        · next hr => exact h.bindChannel hr

theorem channelStatus {channel : Nat} : s.Upholds (t.channelStatus channel).1 := by
  unfold State.channelStatus
  split
  · exact h
  · exact h

theorem nextSegment {p : Port} : s.Upholds (t.nextSegment p).1 := by
  unfold State.nextSegment
  split
  · exact h
  · unfold State.segment
    split
    · exact h
    · split
      · exact h
      · split
        · exact h
        · split
          · exact h.setStream.moveChannel
          · exact h

theorem openStream {p : Port} {quantum : Option Nat} : s.Upholds (t.openStream p quantum).1 := h.setStream

theorem startTestFrom {p : Port} {pols duration : Nat} {severe : Option Nat} :
    s.Upholds (t.startTestFrom p pols duration severe).1 := by
  unfold State.startTestFrom
  refine ite_fst h (ite_fst h ?_)
  split
  · exact h
  · exact h.beginTest

theorem stopTestFrom {p : Port} : s.Upholds (t.stopTestFrom p).1 := ite_fst h (ite_fst h.endTest h)

/-! ### The transmitter and the turn (chapters 5 and 6) -/

theorem fillInstaller {mode : Nat} : s.Upholds (t.fillInstaller mode).1 := by
  unfold State.fillInstaller
  split
  · exact h
  · exact h.setInstSlot

theorem requestTurn {p : Port} {mode : Nat} : s.Upholds (t.requestTurn p mode).1 := by
  unfold State.requestTurn
  split
  · exact h
  · exact ite_fst h.askTurn h

theorem dropTurn {p : Port} : s.Upholds (t.dropTurn p).1 := by
  unfold State.dropTurn
  split
  · exact h
  · exact ite_fst h h.releaseTurn

theorem muteTo {mask : BitVec 8} : s.Upholds (t.muteTo mask).1 := ite_fst h.setMask h

/-- The traffic power is no part of either law. -/
theorem holdPower {power : Int} : s.Upholds (t.holdPower power).1 := ⟨h.mute, h.turn, h.ungranted⟩

/-! ### The plan (chapters 7 and 8) -/

theorem readStepsFrom {p : Port} {start count : Nat} : s.Upholds (t.readStepsFrom p start count).1 := ite_fst h h

theorem loadStepsAt {start : Nat} {entries : List RawStep} : s.Upholds (t.loadStepsAt start entries).1 := by
  unfold State.loadStepsAt
  refine ite_fst h (ite_fst h ?_)
  split
  · exact h
  · exact ite h.setPle.movePlan h.setPle

theorem setLength {length : Nat} : s.Upholds (t.setLength length).1 :=
  ite_fst h (ite_fst h h.setPle.movePlanTo)

theorem runPlanAt {start : Nat} : s.Upholds (t.runPlanAt start).1 := by
  unfold State.runPlanAt
  refine ite_fst h (ite_fst h ?_)
  split
  · exact h
  · exact h.setPle.movePlan.setTodo

theorem stopStep {x : Step} {c : StepCtx} : s.Upholds (t.stopStep x c).1 :=
  h.dropDigest.recordOrDrop.release.postStepDone

theorem stopPlan : s.Upholds t.stopPlan.1 := by
  unfold State.stopPlan
  split
  · split
    · dsimp only
      exact hush h.stopStep
    · exact h
  · split
    · dsimp only
      exact hush h.stopStep
    · exact h
  · exact h.storeHeld
  · exact h
  · exact h
  · exact h
  · exact h
  · exact h

theorem acceptPeak {x : Step} {c : StepCtx} : s.Upholds (t.acceptPeak x c).1 := ite_fst (took (hush h.conclude)) h

theorem acceptFrom : s.Upholds t.acceptFrom.1 := by
  unfold State.acceptFrom
  split
  · exact ite_fst h.acceptPeak (ite_fst (hush h.wake) h)
  · exact h

theorem forceFrom : s.Upholds t.forceFrom.1 := by
  unfold State.forceFrom
  split
  · exact ite_fst (took (hush h.conclude)) h
  · exact h

theorem continuePlan : s.Upholds t.continuePlan.1 := by
  unfold State.continuePlan
  split
  · exact h
  · split
    · exact h.endSuspension.movePlan.setTodo
    · exact h

theorem restart {x : Step} {c : StepCtx} : s.Upholds (t.restart x c) := by
  unfold State.restart
  extract_lets c' begun flushed
  have hbegun : s.Upholds begun := h.endSuspension.setCtx.movePlan.alignStart
  have hflushed : s.Upholds flushed := by
    unfold flushed; split
    · exact hbegun.flushChannel
    · exact hbegun
  exact hflushed.setTodo

theorem leaveHalt : s.Upholds t.leaveHalt := ite h.setPle.movePlan.setTodo h.setPle.complete

theorem resumeNext : s.Upholds t.resumeNext.1 :=
  ite_fst h (ite_fst (ite_fst h h.storeHeld.leaveHalt) h.leaveHalt)

theorem resumePlan : s.Upholds t.resumePlan.1 := by
  unfold State.resumePlan
  split
  · exact ite_fst h.movePlan.setPle h
  · exact h

/-! ### The record, the ports and the profile (chapters 9 to 11) -/

theorem readEntriesFrom {p : Port} {first count : Nat} : s.Upholds (t.readEntriesFrom p first count).1 :=
  ite_fst h (ite_fst h h)

theorem waiveEntry {seq : Nat} : s.Upholds (t.waiveEntry seq).1 := by
  unfold State.waiveEntry
  refine ite_fst h (ite_fst h ?_)
  split
  · exact h
  · exact ite_fst h (ite_fst h h.append)

theorem setNotices {p : Port} {mask : BitVec 16} : s.Upholds (t.setNotices p mask).1 := ite_fst h.setPort h

theorem loadImage {img : List Byte} : s.Upholds (t.loadImage img).1 := by
  unfold State.loadImage
  refine ite_fst h ?_
  split
  · exact h.setPfl
  · refine ite_fst h ?_
    extract_lets c src applied n noted
    have happlied : s.Upholds applied := h.setPfl.applyProfile
    have hnoted : s.Upholds noted := happlied.append.ite happlied
    exact hnoted.postProfile

end

end State.Upholds

/-! ## The part reset (R96, R118, R180) -/

@[simp] theorem State.acrReset_tma (s : State) : s.acrReset.1.tma = s.tma := by
  simp only [State.acrReset, State.dropDigest]; split <;> rfl

@[simp] theorem State.acrReset_pcu (s : State) : s.acrReset.1.pcu = s.pcu := by
  simp only [State.acrReset, State.dropDigest]; split <;> rfl

/-- The part reset empties the slots and both sides of the turn, and leaves the mask and FAULT. -/
theorem State.Upholds.partReset (h : s.Upholds t) : s.Upholds t.partReset := by
  unfold State.partReset
  extract_lets cleared arbitrated
  have harbitrated : s.Upholds arbitrated := by
    refine ⟨fun hs => State.arbitrate_muteLaw ?_, fun _ => ?_, fun _ _ => ?_⟩
    · obtain ⟨-, -, hfault⟩ := h.mute hs
      simpa [State.pcuReset, cleared] using hfault
    · simp [State.TurnLaw, arbitrated, State.txReset, State.pcuReset, Pcu.powerOn]
    · simp [arbitrated, State.txReset, State.pcuReset, Pcu.powerOn]
  exact harbitrated.setPtu.setPif.setReports

/-! ## Commands -/

namespace State.Upholds

theorem next (h : s.Upholds t) : Completes (.next t) s.Upholds := ⟨t, rfl, h⟩

/-- Power-on leaves nothing muted, no FAULT and no turn, whatever was before it (R96, R118). -/
theorem powerOn {straps : Straps} {attached : Bool} {pending : List Instr} {draws : Nat} :
    s.Upholds (((State.powerOn straps attached).setPending pending).setDraws draws) := by
  refine ⟨fun _ => ?_, fun _ => ?_, fun _ _ => rfl⟩
  · simp [State.MuteLaw, State.powerOn, Tma.powerOn, PerPol.all]
  · simp [State.TurnLaw, State.powerOn, Tma.powerOn, Pcu.powerOn]

theorem hearFrame (h : s.Upholds t) {bytes : List Byte} (hacr : t.acr = s.acr) : s.Upholds (t.hearFrame bytes) := by
  unfold State.hearFrame
  split
  · exact ite (h.takeFrame hacr).takeHandover h
  · exact h

/-- Every command upholds the laws; a peer frame, which alone can enter a grant, where the record is still as it was. -/
theorem of_exec (i : Instr) (h : s.Upholds t) (hacr : ∀ bytes, i = .peerFrame bytes → t.acr = s.acr) :
    Completes (exec i t) s.Upholds := by
  cases i with
  | powerOn straps attached => exact next powerOn
  | profileReadComplete image => exact next (react (whileReading h h.startImage))
  | memoryHeaderReject header =>
    refine next (react (whileReading h ?_))
    split
    · exact h.startUp
    · exact h
  | memoryNoAnswer => exact next (react (whileReading h h.startUp))
  | memoryStall => exact next (react (whileReading h h.startUp))
  | detectorSample b code lock => exact next (react (ite h.takeSample h))
  | doubleBurstEnd => exact next h.setPtu
  | freshnessExpiry => exact next (ite h.goStale h)
  | intervalExpiry ch => exact next h.channelExpiry
  | testBlock p bits => exact next h.checkBlock
  | testIntervalExpiry => exact next (react (ite h.testExpiry h))
  | settleReport change => exact next h.settled.react
  | settleTimeout => exact next (react (ite h.txFault h))
  | composition => exact next (ite h.compose h)
  | peerFrame bytes => exact next (h.hearFrame (hacr bytes rfl)).react
  | silenceExpiry => exact next (react (ite h.peerSilent h))
  | holdExpiry => exact next (react (ite h.holdExpired h))
  | prepareLimitExpiry => exact next (react (inPhase h fun _ _ => ite h.suspend h))
  | settleLimitExpiry => exact next (react (inPhase h fun _ _ => ite h.conclude h))
  | measureExpiry => exact next (react (inPhase h fun _ _ => ite h.measureSecond h))
  | suspensionLimitExpiry => exact next (react (ite h.abandon h))
  | presenceLoss => exact next (react (ite h.setPresent.dropInstaller h))
  | presenceAttach => exact next (ite h h.setPresent)
  | unitPortRead clocked => exact next h.readPort
  | installerFrameSent => exact next (ite h.finishFrame h)
  | installerBusRead count => exact next (ite h.readBus h)
  | noticeAcknowledge => exact next (ite h.acknowledge h)
  | frameGapTimeout => exact next (ite h.endResync h)
  | frameRestartDiscard => exact next (ite h.endResync h)
  | unknownRequest f code => exact next (h.arrive fun _ hu => hu)
  | partReset => exact next (ite h.partReset h)
  | branchStatus f => exact next (h.serve (.ifCoded fun _ hu => hu))
  | readValue f quantity branch scale => exact next (h.serve (.ifCoded fun _ hu => hu.readFigure))
  | pointingStatus f => exact next (h.serve (.ifCoded fun _ hu => hu))
  | channelStatus f channel => exact next (h.serve (.ifCoded fun _ hu => hu.channelStatus))
  | nextSegment f => exact next (h.serve (.ifCoded fun _ hu => hu.nextSegment))
  | testStatus f => exact next (h.serve (.ifCoded fun _ hu => hu))
  | txStatus f => exact next (h.serve (.ifCoded fun _ hu => hu))
  | peerStatus f => exact next (h.serve (.ifCoded fun _ hu => hu))
  | readSteps f start count => exact next (h.serve (.ifCoded fun _ hu => hu.readStepsFrom))
  | planStatus f => exact next (h.serve (.ifCoded fun _ hu => hu))
  | recordStatus f => exact next (h.serve (.ifCoded fun _ hu => hu))
  | readEntries f first count => exact next (h.serve (.ifCoded fun _ hu => hu.readEntriesFrom))
  | portStatus f => exact next (h.serve (.ifCoded fun _ hu => hu))
  | profileStatus f => exact next (h.serve (.ifCoded fun _ hu => hu))
  | resetPeak f target => exact next (h.serve (.unlessClosed fun _ hu => hu.resetPeaks))
  | setPointing f branch => exact next (h.serve (.unlessClosed fun _ hu => hu.choosePointing))
  | bind f args => exact next (h.serve (.unlessClosed fun _ hu => ite_fst hu.bindFrom hu))
  | run f channel => exact next (h.serve (.onChannel fun _ _ _ hu => hu.runChannel))
  | halt f channel => exact next (h.serve (.onChannel fun _ _ _ hu => hu.haltChannel))
  | resume f channel => exact next (h.serve (.onChannel fun _ _ _ hu => hu.resumeChannel))
  | flush f channel => exact next (h.serve (.onChannel fun _ _ _ hu => hu.flushChannel))
  | unbind f channel => exact next (h.serve (.onChannel fun _ _ _ hu => hu.freeChannel))
  | openStream f quantum => exact next (h.serve (.unlessClosed fun _ hu => hu.openStream))
  | closeStream f => exact next (h.serve (.unlessClosed fun _ hu => ite_fst hu hu.closeStreamOf))
  | join f channel => exact next (h.serve (.onChannel fun _ _ _ hu => ite_fst hu hu.setMember))
  | leave f channel => exact next (h.serve (.onChannel fun _ _ _ hu => ite_fst hu.setMember hu))
  | startTest f pols duration severe => exact next (h.serve (.unlessClosed fun _ hu => hu.startTestFrom))
  | stopTest f => exact next (h.serve (.unlessClosed fun _ hu => hu.stopTestFrom))
  | txRequest f mode => exact next (h.serve (.unlessClosed fun _ hu => hu.fillInstaller)).react
  | txRelease f => exact next (h.serve (.unlessClosed fun _ hu => hu.setInstSlot)).react
  | turnRequest f mode => exact next (h.serve (.unlessClosed fun _ hu => hu.requestTurn)).react
  | turnRelease f => exact next (h.serve (.unlessClosed fun _ hu => hu.dropTurn)).react
  | loadSteps f start entries => exact next (h.arrive (.unlessClosed fun _ hu => hu.loadStepsAt))
  | setPlanLength f length => exact next (h.serve (.unlessClosed fun _ hu => hu.setLength))
  | runPlan f start => exact next (h.serve (.unlessClosed fun _ hu => hu.runPlanAt)).react
  | stopPlan f => exact next (h.serve (.unlessClosed fun _ hu => ite_fst hu.stopPlan.setPle.movePlan hu))
  | acceptPeak f => exact next (h.serve (.unlessClosed fun _ hu => hu.acceptFrom)).react
  | forceAccept f => exact next (h.serve (.unlessClosed fun _ hu => hu.forceFrom)).react
  | abortStep f => exact next (h.serve (.unlessClosed fun _ hu => ite_fst hu.report hu)).react
  | continueStep f => exact next (h.serve (.unlessClosed fun _ hu => hu.continuePlan)).react
  | restartStep f =>
    refine next (react (h.serve (.unlessClosed fun _ hu => ?_)))
    split
    · exact took (hush hu.restart)
    · exact hu
  | skipStep f => exact next (h.serve (.unlessClosed fun _ hu => ite_fst hu.abandon hu)).react
  | resumeNext f => exact next (h.serve (.unlessClosed fun _ hu => hu.resumeNext)).react
  | pause f => exact next (h.serve (.unlessClosed fun _ hu => ite_fst hu.setPle hu))
  | setStepMode f mode =>
    refine next (h.serve (.unlessClosed fun _ hu => ?_))
    dsimp only
    split
    · exact hu.setPle
    · exact hu
  | resumePlan f => exact next (h.serve (.unlessClosed fun _ hu => hu.resumePlan)).react
  | setNoticeMask f mask => exact next (h.serve (.unlessClosed fun _ hu => hu.setNotices))
  | resetPlan f => exact next (h.serve fun _ hu => ite_fst hu (ite_fst hu.planReset hu))
  | setBranch f branch state => exact next (h.serveUnit (.ifCoded fun _ hu => hu.setBranchTo)).react
  | setTemperature f celsius => exact next (h.serveUnit (.ifCoded fun _ hu => hu.setBlu))
  | setMute f mask => exact next (h.serveUnit (.ifCoded fun _ hu => hu.muteTo)).react
  | setTxPower f power => exact next (h.serveUnit (.ifCoded fun _ hu => hu.holdPower))
  | clearTxFault f => exact next (h.serveUnit (.ifCoded fun _ hu => ite_fst hu.clearFault hu)).react
  | waive f seq => exact next (h.serveUnit (.ifCoded fun _ hu => hu.waiveEntry))
  | purgeSuperseded f => exact next (h.serveUnit (.ifCoded fun _ hu => ite_fst hu.setAcr hu))
  | reopen f => exact next (h.serveUnit (.ifCoded fun _ hu => ite_fst hu (ite_fst hu hu.reopenRecord)))
  | loadProfile f image => exact next (h.serveUnit fun _ hu => hu.loadImage).react
  | setEpoch f offset => exact next (h.serveUnit (.ifCoded fun _ hu => hu.setPfl))
  | resetPart f => exact next (h.serveUnit (.ifCoded fun _ hu => hu))

/-! ## A millisecond, and the step -/

/-- Time moves timers, of which neither law speaks. -/
theorem advance (h : s.Upholds t) : s.Upholds t.advance := ⟨h.mute, h.turn, h.ungranted⟩

/-- An expiry, which is no peer frame, is taken where it is due. -/
theorem fire (h : s.Upholds t) (i : Instr) {due : Bool} (hi : ∀ bytes, i ≠ .peerFrame bytes := by nofun) :
    s.Upholds (t.fire due (exec i)) := by
  obtain ⟨u, hu, hs⟩ := of_exec i h fun bytes hb => absurd hb (hi bytes)
  refine ite ?_ h
  rw [hu]; exact hs

theorem expire (h : s.Upholds t) : s.Upholds t.expire := by
  unfold State.expire
  extract_lets burst fresh channels
  have hchannels : s.Upholds channels :=
    foldl (fun c hu => hu.fire (.intervalExpiry c)) _ ((h.fire .doubleBurstEnd).fire .freshnessExpiry)
  exact ((((((((((hchannels.fire .testIntervalExpiry).fire .settleTimeout).fire .composition).fire
    .silenceExpiry).fire .holdExpiry).fire .prepareLimitExpiry).fire .settleLimitExpiry).fire
    .measureExpiry).fire .suspensionLimitExpiry).fire .partReset)

end State.Upholds

/-- Every step upholds the laws. -/
theorem State.Upholds.of_step (hstep : step s = .next t) : s.Upholds t := by
  unfold step at hstep
  split at hstep
  · cases hstep
    exact (State.Upholds.refl s).advance.expire
  · next c rest _ =>
      have hrest : s.Upholds (s.setPending rest) := (State.Upholds.refl s).of_link rfl rfl rfl
      obtain ⟨u, hu, hs⟩ := State.Upholds.of_exec c hrest fun _ _ => rfl
      rw [hu] at hstep
      cases hstep
      exact hs

end Sys2Proof.Machine

open Sys2Proof.Machine

/-- Settles O7: every step upholds R86's law. -/
theorem muteLawKept : Obligations.MuteLawKept := fun _ _ hs hstep => (State.Upholds.of_step hstep).mute hs

/-- Settles O8: every step upholds R105's law, and an end whose record is not OPEN enters no grant. -/
theorem turnLawKept : Obligations.TurnLawKept :=
  ⟨fun _ _ hs hstep => (State.Upholds.of_step hstep).turn hs,
    fun _ _ hstep => (State.Upholds.of_step hstep).ungranted⟩
end
